-- ==== Sys2Proof/Word.lean ====
section
/-! DEFINITION. The widths of the machine (00_scope.md R5, 20_memory.md R60): a byte of memory, a 16-bit register or datum, a
32-bit register pair, a 20-bit address. -/

namespace Sys2Proof

/-- One byte of memory, or a byte half of R0 or R1 (R21, R60). -/
abbrev Byte := BitVec 8

/-- A 16-bit register or datum (R20). -/
abbrev Word := BitVec 16

/-- A 32-bit register pair or datum (R22, R23). -/
abbrev Long := BitVec 32

/-- A 20-bit address: PC, INTB and every effective address (R28, R30, R60). Its arithmetic wraps modulo 2^20 (R29). -/
abbrev Addr := BitVec 20

/-- The size specifier `.B` or `.W` (R11, R102). -/
inductive Size where
  | b
  | w
deriving DecidableEq, Repr

/-- How many bits an operand of this size has: `n` of R128. -/
def Size.bits : Size → Nat
  | .b => 8
  | .w => 16

end Sys2Proof
end

