-- ==== Sys2Proof/Config.lean ====
section
/-! DEFINITION. What the spec leaves to the platform or calls any value: opaque constants, of which Lean knows nothing but the type. -/

namespace Sys2Proof

/-- One access of the core that the platform sees: a data read of the SFR area, or a data write outside writable memory
(20_memory.md R71, R72, 92_eei_decisions.md D3). -/
inductive PlatformAccess where
  | read (a : Addr)
  | write (a : Addr) (v : Byte)
deriving DecidableEq, Repr

/-- The values the manual calls indeterminate (`any_N` of R9): the model draws the `k`-th one as `freeValue k`, for a counter
`k` that it holds in State and advances (log 12). -/
opaque Config.freeValue : Nat → Long

/-- The platform's read callback of D3: what the SFR area or an unpopulated address answers, given every earlier access (newest first;
log 4, log 8). -/
opaque Config.platformRead : List PlatformAccess → Addr → Byte

/-- Which interrupt request bits the device keeps after an access (the newest of the list). The model ANDs it with the old bits, so
that software can clear a request bit and cannot set one (10_state.md R46, log 5). -/
opaque Config.platformIrKeep : List PlatformAccess → BitVec 32

/-- The interrupt priority levels of the 32 peripheral sources after an access (R610, log 5). -/
opaque Config.platformLevels : List PlatformAccess → Vector (BitVec 3) 32 → Vector (BitVec 3) 32

/-- The addresses the address match registers hold enabled after an access (R609, log 5). -/
opaque Config.platformAddrMatch : List PlatformAccess → List Addr → List Addr

/-- `periph_hw_priority` of R614 and D26, an open parameter: of two peripheral requests of equal level the one of lower rank wins,
and of equal rank the one of lower number; every total order of the sources is such a rank (log 17). -/
opaque Config.periphRank : Nat → Nat

end Sys2Proof
end

