-- ==== Sys2Proof/Syntax.lean ====
section
/-! DEFINITION. The instructions as data: the operand types of 30_encoding.md and one constructor of Instr per row of
spec/opcode_table.json. Raw codes do not appear here: Sys2Proof/Decode.lean turns bytes into these terms and back. -/

namespace Sys2Proof

/-- A data register of the general operand code 0000 to 0011 (R103): its byte name for `.B`, its word name for `.W`. -/
inductive DReg where
  | r0lR0
  | r0hR1
  | r1lR2
  | r1hR3
deriving DecidableEq, Repr

/-- An address register (R23). -/
inductive AReg where
  | a0
  | a1
deriving DecidableEq, Repr

/-- A half of R0, the register of the short forms (R105). -/
inductive Half where
  | r0l
  | r0h
deriving DecidableEq, Repr

/-- A memory operand of the general operand codes 0110 to 1111 (R103, R112 to R116). -/
inductive Mem where
  /-- `[An]` -/
  | ind (a : AReg)
  /-- `dsp:8[An]`, displacement unsigned -/
  | dsp8A (a : AReg) (d : Byte)
  /-- `dsp:8[SB]`, displacement unsigned -/
  | dsp8SB (d : Byte)
  /-- `dsp:8[FB]`, displacement signed -/
  | dsp8FB (d : Byte)
  /-- `dsp:16[An]` -/
  | dsp16A (a : AReg) (d : Word)
  /-- `dsp:16[SB]` -/
  | dsp16SB (d : Word)
  /-- `abs16` -/
  | abs16 (d : Word)
deriving DecidableEq, Repr

/-- A general operand (R103). -/
inductive Operand where
  | dreg (r : DReg)
  | areg (a : AReg)
  | mem (m : Mem)
deriving DecidableEq, Repr

/-- A bit operand (R104, R125). `code` is the operand code the table gives: base × 8 + bit. -/
inductive BitOperand where
  /-- `bit,Rn` -/
  | dreg (r : DReg) (bit : BitVec 4)
  /-- `bit,An` -/
  | areg (a : AReg) (bit : BitVec 4)
  /-- `[An]` -/
  | ind (a : AReg)
  /-- `base:8[An]` -/
  | base8A (a : AReg) (base : Byte)
  /-- `bit,base:8[SB]` -/
  | base8SB (code : Byte)
  /-- `bit,base:8[FB]`, the code signed -/
  | base8FB (code : Byte)
  /-- `base:16[An]` -/
  | base16A (a : AReg) (base : Word)
  /-- `bit,base:16[SB]` -/
  | base16SB (code : Word)
  /-- `bit,base:16` -/
  | base16 (code : Word)
deriving DecidableEq, Repr

/-- The memory operands of the short forms (R105). -/
inductive ShortMem where
  | dsp8SB (d : Byte)
  | dsp8FB (d : Byte)
  | abs16 (d : Word)
deriving DecidableEq, Repr

/-- The source of the short two-operand forms (R105 b, c): a half of R0 that the destination determines, or memory. -/
inductive ShortSrc where
  | half
  | mem (m : ShortMem)
deriving DecidableEq, Repr

/-- The destination of the short immediate and one-operand forms (R105 a). -/
inductive ShortDest where
  | half (h : Half)
  | mem (m : ShortMem)
deriving DecidableEq, Repr

/-- An immediate of the instruction's size: it fixes the size specifier (R110). -/
inductive Imm where
  | b (v : Byte)
  | w (v : Word)
deriving DecidableEq, Repr

/-- The size an immediate fixes. -/
def Imm.size : Imm → Size
  | .b _ => .b
  | .w _ => .w

/-- The count of ROT, SHA and SHL with `#IMM` (R108 c): a direction and the magnitude minus one. -/
structure ShiftCount where
  right : Bool
  less1 : BitVec 3
deriving DecidableEq, Repr

/-- The 32-bit register pair of SHA.L and SHL.L (R122). -/
inductive Pair where
  | r2r0
  | r3r1
deriving DecidableEq, Repr

/-- The 32-bit register pairs of JMPI.A, JSRI.A and STC PC (R122). -/
inductive APair where
  | r2r0
  | r3r1
  | a1a0
deriving DecidableEq, Repr

/-- A memory operand of JMPI and JSRI: codes 1100 and 1101 are `dsp:20[An]` there, not `dsp:16[An]` (R103, R120, R474). -/
inductive IndMem where
  | mem (m : Mem)
  | dsp20A (a : AReg) (d : Addr)
deriving DecidableEq, Repr

/-- The operand of JMPI.W and JSRI.W (R474). -/
inductive IndW where
  | dreg (r : DReg)
  | areg (a : AReg)
  | mem (m : IndMem)
deriving DecidableEq, Repr

/-- The operand of JMPI.A and JSRI.A (R475). -/
inductive IndA where
  | pair (p : APair)
  | mem (m : IndMem)
deriving DecidableEq, Repr

/-- The destination of STC PC (R566). -/
inductive PcDest where
  | pair (p : APair)
  | mem (m : Mem)
deriving DecidableEq, Repr

/-- The destination of MOVA (R213). -/
inductive MovaDest where
  | dreg (r : DReg)
  | areg (a : AReg)
deriving DecidableEq, Repr

/-- A control register of LDC, STC, PUSHC and POPC (R109, R530). -/
inductive CReg where
  | intbl
  | intbh
  | flg
  | isp
  | sp
  | sb
  | fb
deriving DecidableEq, Repr

/-- A flag of FSET and FCLR (R109). -/
inductive Flag where
  | c
  | d
  | z
  | s
  | b
  | o
  | i
  | u
deriving DecidableEq, Repr

/-- A condition of JCnd and BMCnd (R143, R465). -/
inductive Cond where
  | geu
  | gtu
  | eq
  | n
  | ltu
  | leu
  | ne
  | pz
  | le
  | o
  | ge
  | gt
  | no
  | lt
deriving DecidableEq, Repr

/-- The nibbles MOVDir moves (R214): the first letter is the source nibble, the second the destination nibble. -/
inductive Dir where
  | ll
  | hl
  | lh
  | hh
deriving DecidableEq, Repr

/-- The registers PUSHM and POPM select (R220, R226). -/
structure RegList where
  r0 : Bool
  r1 : Bool
  r2 : Bool
  r3 : Bool
  a0 : Bool
  a1 : Bool
  sb : Bool
  fb : Bool
deriving DecidableEq, Repr

/-- The instructions: one constructor per row of spec/opcode_table.json, in the table's order. -/
inductive Instr where
  /-- `BRK` (R521) -/
  | brk
  /-- `MOV.B:S R0L/R0H,dest` (R211) -/
  | movSHalfDest (h : Half) (m : ShortMem)
  /-- `NOP` (R545) -/
  | nop
  /-- `MOV.B:S src,R0L/R0H` (R212) -/
  | movSSrcHalf (h : Half) (x : ShortSrc)
  /-- `AND.B:S src,R0L/R0H` (R434) -/
  | andSSrcHalf (h : Half) (x : ShortSrc)
  /-- `OR.B:S src,R0L/R0H` (R440) -/
  | orSSrcHalf (h : Half) (x : ShortSrc)
  /-- `ADD.B:S src,R0L/R0H` (R341) -/
  | addSSrcHalf (h : Half) (x : ShortSrc)
  /-- `SUB.B:S src,R0L/R0H` (R366) -/
  | subSSrcHalf (h : Half) (x : ShortSrc)
  /-- `MOV.B:S src,A0/A1` (R207) -/
  | movSSrcA (a : AReg) (x : ShortSrc)
  /-- `CMP.B:S src,R0L/R0H` (R346) -/
  | cmpSSrcHalf (h : Half) (x : ShortSrc)
  /-- `BCLR:S bit,base:11[SB]` (R263) -/
  | bclrS (bit : BitVec 3) (d : Byte)
  /-- `BSET:S bit,base:11[SB]` (R274) -/
  | bsetS (bit : BitVec 3) (d : Byte)
  /-- `BNOT:S bit,base:11[SB]` (R269) -/
  | bnotS (bit : BitVec 3) (d : Byte)
  /-- `BTST:S bit,base:11[SB]` (R276) -/
  | btstS (bit : BitVec 3) (d : Byte)
  /-- `JMP.S label` (R468) -/
  | jmpS (d : BitVec 3)
  /-- `JCnd label (GEU GTU EQ N LTU LEU NE PZ)` (R466) -/
  | jcndShort (c : Cond) (d : Byte)
  /-- `PUSH.B:S R0L/R0H` (R223) -/
  | pushBS (h : Half)
  /-- `POP.B:S R0L/R0H` (R218) -/
  | popBS (h : Half)
  /-- `PUSH.W:S A0/A1` (R224) -/
  | pushWS (a : AReg)
  /-- `POP.W:S A0/A1` (R219) -/
  | popWS (a : AReg)
  /-- `MOV.W:S #IMM16,A0/A1` (R209) -/
  | movWSImmA (a : AReg) (imm : Word)
  /-- `MOV.B:S #IMM8,A0/A1` (R209) -/
  | movBSImmA (a : AReg) (imm : Byte)
  /-- `INC.W A0/A1` (R359) -/
  | incW (a : AReg)
  /-- `DEC.W A0/A1` (R355) -/
  | decW (a : AReg)
  /-- `ADD.B:S #IMM8,dest` (R339) -/
  | addSImm (imm : Byte) (dst : ShortDest)
  /-- `SUB.B:S #IMM8,dest` (R364) -/
  | subSImm (imm : Byte) (dst : ShortDest)
  /-- `AND.B:S #IMM8,dest` (R432) -/
  | andSImm (imm : Byte) (dst : ShortDest)
  /-- `OR.B:S #IMM8,dest` (R438) -/
  | orSImm (imm : Byte) (dst : ShortDest)
  /-- `INC.B dest` (R358) -/
  | incB (dst : ShortDest)
  /-- `DEC.B dest` (R354) -/
  | decB (dst : ShortDest)
  /-- `MOV.B:Z #0,dest` (R210) -/
  | movZ (dst : ShortDest)
  /-- `NOT.B:S dest` (R436) -/
  | notS (dst : ShortDest)
  /-- `MOV.B:S #IMM8,dest` (R208) -/
  | movSImm (imm : Byte) (dst : ShortDest)
  /-- `STZ #IMM8,dest` (R236) -/
  | stz (imm : Byte) (dst : ShortDest)
  /-- `STNZ #IMM8,dest` (R235) -/
  | stnz (imm : Byte) (dst : ShortDest)
  /-- `STZX #IMM81,#IMM82,dest` (R237) -/
  | stzx (imm1 imm2 : Byte) (dst : ShortDest)
  /-- `CMP.B:S #IMM8,dest` (R344) -/
  | cmpSImm (imm : Byte) (dst : ShortDest)
  /-- `PUSHM src` (R226) -/
  | pushm (l : RegList)
  /-- `POPM dest` (R220) -/
  | popm (l : RegList)
  /-- `JMPS #IMM8` (R478) -/
  | jmps (n : Byte)
  /-- `JSRS #IMM8` (R484) -/
  | jsrs (n : Byte)
  /-- `RTS` (R485) -/
  | rts
  /-- `JMP.W label` (R470) -/
  | jmpW (d : Word)
  /-- `JSR.W label` (R480) -/
  | jsrW (d : Word)
  /-- `INTO` (R527) -/
  | into
  /-- `REIT` (R560) -/
  | reit
  /-- `JMP.A label` (R471) -/
  | jmpA (t : Addr)
  /-- `JSR.A label` (R481) -/
  | jsrA (t : Addr)
  /-- `JMP.B label` (R469) -/
  | jmpB (d : Byte)
  /-- `UND` (R570) -/
  | und
  /-- `MULU.size src,dest` (R411) -/
  | muluG (sz : Size) (src dst : Operand)
  /-- `MOV.size:G src,dest` (R206) -/
  | movG (sz : Size) (src dst : Operand)
  /-- `MUL.size src,dest` (R409) -/
  | mulG (sz : Size) (src dst : Operand)
  /-- `TST.size src,dest` (R442) -/
  | tstG (sz : Size) (src dst : Operand)
  /-- `XOR.size src,dest` (R444) -/
  | xorG (sz : Size) (src dst : Operand)
  /-- `AND.size:G src,dest` (R433) -/
  | andG (sz : Size) (src dst : Operand)
  /-- `OR.size:G src,dest` (R439) -/
  | orG (sz : Size) (src dst : Operand)
  /-- `ADD.size:G src,dest` (R340) -/
  | addG (sz : Size) (src dst : Operand)
  /-- `SUB.size:G src,dest` (R365) -/
  | subG (sz : Size) (src dst : Operand)
  /-- `ADC.size src,dest` (R335) -/
  | adcG (sz : Size) (src dst : Operand)
  /-- `SBB.size src,dest` (R362) -/
  | sbbG (sz : Size) (src dst : Operand)
  /-- `CMP.size:G src,dest` (R345) -/
  | cmpG (sz : Size) (src dst : Operand)
  /-- `ADD.size:Q #IMM,dest` (R338) -/
  | addQ (sz : Size) (imm : BitVec 4) (dst : Operand)
  /-- `CMP.size:Q #IMM,dest` (R343) -/
  | cmpQ (sz : Size) (imm : BitVec 4) (dst : Operand)
  /-- `MOV.size:Q #IMM,dest` (R203) -/
  | movQ (sz : Size) (imm : BitVec 4) (dst : Operand)
  /-- `ROT.size #IMM,dest` (R303) -/
  | rotImm (sz : Size) (k : ShiftCount) (dst : Operand)
  /-- `SHL.size #IMM,dest` (R309) -/
  | shlImm (sz : Size) (k : ShiftCount) (dst : Operand)
  /-- `SHA.size #IMM,dest` (R305) -/
  | shaImm (sz : Size) (k : ShiftCount) (dst : Operand)
  /-- `ADJNZ.size #IMM,dest,label` (R461) -/
  | adjnz (sz : Size) (imm : BitVec 4) (dst : Operand) (d : Byte)
  /-- `SBJNZ.size #IMM,dest,label` (R462) -/
  | sbjnz (sz : Size) (imm : BitVec 4) (dst : Operand) (d : Byte)
  /-- `STE.size src,abs20` (R232) -/
  | steAbs20 (sz : Size) (src : Operand) (t : Addr)
  /-- `STE.size src,dsp:20[A0]` (R233) -/
  | steDsp20 (sz : Size) (src : Operand) (d : Addr)
  /-- `STE.size src,[A1A0]` (R234) -/
  | steA1A0 (sz : Size) (src : Operand)
  /-- `MOV.size:G src,dsp:8[SP]` (R205) -/
  | movToSp (sz : Size) (src : Operand) (d : Byte)
  /-- `PUSH.size:G src` (R222) -/
  | pushG (sz : Size) (src : Operand)
  /-- `NEG.size dest` (R360) -/
  | neg (sz : Size) (dst : Operand)
  /-- `ROT.size R1H,dest` (R304) -/
  | rotR1H (sz : Size) (dst : Operand)
  /-- `NOT.size:G dest` (R435) -/
  | notG (sz : Size) (dst : Operand)
  /-- `LDE.size abs20,dest` (R228) -/
  | ldeAbs20 (sz : Size) (t : Addr) (dst : Operand)
  /-- `LDE.size dsp:20[A0],dest` (R229) -/
  | ldeDsp20 (sz : Size) (d : Addr) (dst : Operand)
  /-- `LDE.size [A1A0],dest` (R230) -/
  | ldeA1A0 (sz : Size) (dst : Operand)
  /-- `MOV.size:G dsp:8[SP],dest` (R204) -/
  | movFromSp (sz : Size) (d : Byte) (dst : Operand)
  /-- `MOV.size:G #IMM,dest` (R202) -/
  | movGImm (imm : Imm) (dst : Operand)
  /-- `POP.size:G dest` (R217) -/
  | popG (sz : Size) (dst : Operand)
  /-- `SHL.size R1H,dest` (R310) -/
  | shlR1H (sz : Size) (dst : Operand)
  /-- `SHA.size R1H,dest` (R306) -/
  | shaR1H (sz : Size) (dst : Operand)
  /-- `TST.size #IMM,dest` (R441) -/
  | tstImm (imm : Imm) (dst : Operand)
  /-- `XOR.size #IMM,dest` (R443) -/
  | xorImm (imm : Imm) (dst : Operand)
  /-- `AND.size:G #IMM,dest` (R431) -/
  | andImm (imm : Imm) (dst : Operand)
  /-- `OR.size:G #IMM,dest` (R437) -/
  | orImm (imm : Imm) (dst : Operand)
  /-- `ADD.size:G #IMM,dest` (R337) -/
  | addImm (imm : Imm) (dst : Operand)
  /-- `SUB.size:G #IMM,dest` (R363) -/
  | subImm (imm : Imm) (dst : Operand)
  /-- `ADC.size #IMM,dest` (R334) -/
  | adcImm (imm : Imm) (dst : Operand)
  /-- `SBB.size #IMM,dest` (R361) -/
  | sbbImm (imm : Imm) (dst : Operand)
  /-- `CMP.size:G #IMM,dest` (R342) -/
  | cmpImm (imm : Imm) (dst : Operand)
  /-- `DIVX.size src` (R406) -/
  | divx (sz : Size) (src : Operand)
  /-- `ROLC.size dest` (R301) -/
  | rolc (sz : Size) (dst : Operand)
  /-- `RORC.size dest` (R302) -/
  | rorc (sz : Size) (dst : Operand)
  /-- `DIVU.size src` (R404) -/
  | divu (sz : Size) (src : Operand)
  /-- `DIV.size src` (R402) -/
  | div (sz : Size) (src : Operand)
  /-- `ADCF.size dest` (R336) -/
  | adcf (sz : Size) (dst : Operand)
  /-- `ABS.size dest` (R333) -/
  | abs (sz : Size) (dst : Operand)
  /-- `LDC src,dest` (R537) -/
  | ldc (c : CReg) (src : Operand)
  /-- `STC src,dest` (R565) -/
  | stc (c : CReg) (dst : Operand)
  /-- `XCHG.size src,dest` (R238) -/
  | xchg (sz : Size) (r : DReg) (dst : Operand)
  /-- `MOVDir src,R0L` (R216) -/
  | movDirToR0L (dir : Dir) (src : Operand)
  /-- `MOVDir R0L,dest` (R215) -/
  | movDirFromR0L (dir : Dir) (dst : Operand)
  /-- `MULU.size #IMM,dest` (R410) -/
  | muluImm (imm : Imm) (dst : Operand)
  /-- `MUL.size #IMM,dest` (R408) -/
  | mulImm (imm : Imm) (dst : Operand)
  /-- `EXTS.B dest` (R356) -/
  | extsB (dst : Operand)
  /-- `STC PC,dest` (R566) -/
  | stcPc (dst : PcDest)
  /-- `JMPI.A src` (R475) -/
  | jmpiA (src : IndA)
  /-- `JSRI.A src` (R483) -/
  | jsriA (src : IndA)
  /-- `JMPI.W src` (R474) -/
  | jmpiW (src : IndW)
  /-- `JSRI.W src` (R482) -/
  | jsriW (src : IndW)
  /-- `PUSHA src` (R225) -/
  | pusha (m : Mem)
  /-- `LDIPL #IMM` (R541) -/
  | ldipl (l : BitVec 3)
  /-- `ADD.size:Q #IMM,SP` (R353) -/
  | addQSp (imm : BitVec 4)
  /-- `JCnd label (LE O GE GT NO LT)` (R467) -/
  | jcndLong (c : Cond) (d : Byte)
  /-- `BMCnd C` (R265) -/
  | bmcndC (c : Cond)
  /-- `DIVU.size #IMM` (R403) -/
  | divuImm (imm : Imm)
  /-- `DIV.size #IMM` (R401) -/
  | divImm (imm : Imm)
  /-- `PUSH.size #IMM` (R221) -/
  | pushImm (imm : Imm)
  /-- `DIVX.size #IMM` (R405) -/
  | divxImm (imm : Imm)
  /-- `DADD.size R0H,R0L / R1,R0` (R349) -/
  | daddReg (sz : Size)
  /-- `DSUB.size R0H,R0L / R1,R0` (R351) -/
  | dsubReg (sz : Size)
  /-- `DADC.size R0H,R0L / R1,R0` (R348) -/
  | dadcReg (sz : Size)
  /-- `DSBB.size R0H,R0L / R1,R0` (R350) -/
  | dsbbReg (sz : Size)
  /-- `SMOVF.size` (R502) -/
  | smovf (sz : Size)
  /-- `SMOVB.size` (R501) -/
  | smovb (sz : Size)
  /-- `SSTR.size` (R504) -/
  | sstr (sz : Size)
  /-- `ADD.size:G #IMM,SP` (R352) -/
  | addImmSp (imm : Imm)
  /-- `DADD.size #IMM,R0L/R0` (R349) -/
  | daddImm (imm : Imm)
  /-- `DSUB.size #IMM,R0L/R0` (R351) -/
  | dsubImm (imm : Imm)
  /-- `DADC.size #IMM,R0L/R0` (R348) -/
  | dadcImm (imm : Imm)
  /-- `DSBB.size #IMM,R0L/R0` (R350) -/
  | dsbbImm (imm : Imm)
  /-- `RMPA.size` (R412) -/
  | rmpa (sz : Size)
  /-- `LDCTX abs16,abs20` (R538) -/
  | ldctx (n : Word) (t : Addr)
  /-- `STCTX abs16,abs20` (R567) -/
  | stctx (n : Word) (t : Addr)
  /-- `ENTER #IMM8` (R522) -/
  | enter (n : Byte)
  /-- `EXITD` (R523) -/
  | exitd
  /-- `EXTS.W R0` (R357) -/
  | extsW
  /-- `WAIT` (R580) -/
  | wait
  /-- `BTSTC dest` (R279) -/
  | btstc (x : BitOperand)
  /-- `BTSTS dest` (R280) -/
  | btsts (x : BitOperand)
  /-- `BMCnd dest` (R264) -/
  | bmcnd (c : Cond) (x : BitOperand)
  /-- `BNTST src` (R270) -/
  | bntst (x : BitOperand)
  /-- `BAND src` (R261) -/
  | band (x : BitOperand)
  /-- `BNAND src` (R266) -/
  | bnand (x : BitOperand)
  /-- `BOR src` (R272) -/
  | bor (x : BitOperand)
  /-- `BNOR src` (R267) -/
  | bnor (x : BitOperand)
  /-- `BCLR:G dest` (R262) -/
  | bclrG (x : BitOperand)
  /-- `BSET:G dest` (R273) -/
  | bsetG (x : BitOperand)
  /-- `BNOT:G dest` (R268) -/
  | bnotG (x : BitOperand)
  /-- `BTST:G src` (R275) -/
  | btstG (x : BitOperand)
  /-- `BXOR src` (R277) -/
  | bxor (x : BitOperand)
  /-- `BNXOR src` (R271) -/
  | bnxor (x : BitOperand)
  /-- `LDC #IMM16,dest` (R536) -/
  | ldcImm (c : CReg) (imm : Word)
  /-- `LDINTB #IMM20` (R540) -/
  | ldintb (t : Addr)
  /-- `SHL.L R1H,dest` (R312) -/
  | shlLR1H (p : Pair)
  /-- `SHA.L R1H,dest` (R308) -/
  | shaLR1H (p : Pair)
  /-- `PUSHC src` (R554) -/
  | pushc (c : CReg)
  /-- `POPC dest` (R553) -/
  | popc (c : CReg)
  /-- `FSET dest` (R525) -/
  | fset (f : Flag)
  /-- `FCLR dest` (R524) -/
  | fclr (f : Flag)
  /-- `MOVA src,dest` (R213) -/
  | mova (m : Mem) (dst : MovaDest)
  /-- `SHL.L #IMM,dest` (R311) -/
  | shlLImm (p : Pair) (k : ShiftCount)
  /-- `SHA.L #IMM,dest` (R307) -/
  | shaLImm (p : Pair) (k : ShiftCount)
  /-- `INT #IMM` (R526) -/
  | int (n : BitVec 6)
deriving DecidableEq, Repr

end Sys2Proof
end

