-- ==== Sys2Proof/WellFormed.lean ====
section
/-! DEFINITION. Which terms of Instr are instructions: the operand combinations that the spec prints as not selectable or forbids
(30_encoding.md R142 classes 2 and 3, 92_eei_decisions.md D19) are not. -/

namespace Sys2Proof

/-- An address register operand. -/
def Operand.isAreg : Operand → Bool
  | .areg _ => true
  | _ => false

/-- Not both operands an address register with `.B` (R118, R142 class 3). -/
def notBothAreg (sz : Size) (src dst : Operand) : Bool :=
  !(sz == .b && src.isAreg && dst.isAreg)

/-- A one-operand form: not `.B` with A0 or A1 as destination (D19, log 21). -/
def oneOperand (sz : Size) (dst : Operand) : Bool :=
  !(sz == .b && dst.isAreg)

/-- A rotate or shift by R1H: as `oneOperand`, and the destination is not R1H (`.B`) or R1 (`.W`) (R300). -/
def shiftDest (sz : Size) (dst : Operand) : Bool :=
  oneOperand sz dst && !(sz == .b && dst == .dreg .r1hR3) && !(sz == .w && dst == .dreg .r0hR1)

/-- A destination of MUL or MULU (the table of R407). -/
def mulDest (sz : Size) : Operand → Bool
  | .dreg .r0lR0 => true
  | .dreg .r0hR1 => sz == .w
  | .dreg .r1lR2 => sz == .b
  | .dreg .r1hR3 => false
  | .areg .a0 => true
  | .areg .a1 => false
  | .mem _ => true

/-- A destination of EXTS.B: R0L, R1L or memory (R356). -/
def extsDest : Operand → Bool
  | .dreg .r0lR0 => true
  | .dreg .r1lR2 => true
  | .mem _ => true
  | _ => false

/-- A memory operand of MOVA and PUSHA: with a displacement, or abs16 (R213, R225). -/
def Mem.hasDisp : Mem → Bool
  | .ind _ => false
  | _ => true

/-- A memory operand of JMPI and JSRI: `dsp:16[An]` has no code there (R103, R474). -/
def IndMem.ok : IndMem → Bool
  | .mem (.dsp16A _ _) => false
  | _ => true

/-- The operand of JMPI.W and JSRI.W. -/
def IndW.ok : IndW → Bool
  | .mem m => m.ok
  | _ => true

/-- The operand of JMPI.A and JSRI.A. -/
def IndA.ok : IndA → Bool
  | .mem m => m.ok
  | _ => true

/-- A condition of the one-byte JCnd form (R143, R466). -/
def Cond.isShort : Cond → Bool
  | .geu | .gtu | .eq | .n | .ltu | .leu | .ne | .pz => true
  | .le | .o | .ge | .gt | .no | .lt => false

/-- Special page numbers are 18 to 255 (R74, R478, R484). -/
def specialPage (n : Byte) : Bool := decide (18 ≤ n.toNat)

/-- The term is an instruction of the manual. -/
def Instr.wellFormed : Instr → Bool
  | .mulG sz src dst | .muluG sz src dst => notBothAreg sz src dst && mulDest sz dst
  | .movG sz src dst | .tstG sz src dst | .xorG sz src dst | .andG sz src dst | .orG sz src dst
  | .addG sz src dst | .subG sz src dst | .adcG sz src dst | .sbbG sz src dst | .cmpG sz src dst => notBothAreg sz src dst
  | .mulImm imm dst | .muluImm imm dst => mulDest imm.size dst
  | .rotImm sz _ dst | .shlImm sz _ dst | .shaImm sz _ dst => oneOperand sz dst
  | .rotR1H sz dst | .shlR1H sz dst | .shaR1H sz dst => shiftDest sz dst
  | .adjnz sz _ dst _ | .sbjnz sz _ dst _ => oneOperand sz dst
  | .neg sz dst | .notG sz dst | .popG sz dst | .rolc sz dst | .rorc sz dst | .adcf sz dst | .abs sz dst => oneOperand sz dst
  | .movDirToR0L _ src => !src.isAreg
  | .movDirFromR0L _ dst => !dst.isAreg && !(dst == .dreg .r0lR0)
  | .extsB dst => extsDest dst
  | .jmpiA x | .jsriA x => x.ok
  | .jmpiW x | .jsriW x => x.ok
  | .pusha m | .mova m _ => m.hasDisp
  | .jcndShort c _ => c.isShort
  | .jcndLong c _ => !c.isShort
  | .jmps n | .jsrs n => specialPage n
  | .brk | .movSHalfDest _ _ | .nop | .movSSrcHalf _ _ | .andSSrcHalf _ _ | .orSSrcHalf _ _ | .addSSrcHalf _ _
  | .subSSrcHalf _ _ | .movSSrcA _ _ | .cmpSSrcHalf _ _ | .bclrS _ _ | .bsetS _ _ | .bnotS _ _ | .btstS _ _ | .jmpS _
  | .pushBS _ | .popBS _ | .pushWS _ | .popWS _ | .movWSImmA _ _ | .movBSImmA _ _ | .incW _ | .decW _
  | .addSImm _ _ | .subSImm _ _ | .andSImm _ _ | .orSImm _ _ | .incB _ | .decB _ | .movZ _ | .notS _ | .movSImm _ _
  | .stz _ _ | .stnz _ _ | .stzx _ _ _ | .cmpSImm _ _ | .pushm _ | .popm _ | .rts | .jmpW _ | .jsrW _ | .into | .reit
  | .jmpA _ | .jsrA _ | .jmpB _ | .und | .addQ _ _ _ | .cmpQ _ _ _ | .movQ _ _ _
  | .steAbs20 _ _ _ | .steDsp20 _ _ _ | .steA1A0 _ _ | .movToSp _ _ _ | .pushG _ _
  | .ldeAbs20 _ _ _ | .ldeDsp20 _ _ _ | .ldeA1A0 _ _ | .movFromSp _ _ _ | .movGImm _ _
  | .tstImm _ _ | .xorImm _ _ | .andImm _ _ | .orImm _ _ | .addImm _ _ | .subImm _ _ | .adcImm _ _ | .sbbImm _ _
  | .cmpImm _ _ | .divx _ _ | .divu _ _ | .div _ _ | .ldc _ _ | .stc _ _ | .xchg _ _ _ | .stcPc _
  | .ldipl _ | .addQSp _ | .bmcndC _ | .divuImm _ | .divImm _ | .pushImm _ | .divxImm _ | .addImmSp _
  | .daddImm _ | .dsubImm _ | .dadcImm _ | .dsbbImm _ | .daddReg _ | .dsubReg _ | .dadcReg _ | .dsbbReg _
  | .smovf _ | .smovb _ | .sstr _ | .rmpa _ | .ldctx _ _ | .stctx _ _ | .enter _ | .exitd | .extsW | .wait
  | .btstc _ | .btsts _ | .bmcnd _ _ | .bntst _ | .band _ | .bnand _ | .bor _ | .bnor _ | .bclrG _ | .bsetG _ | .bnotG _
  | .btstG _ | .bxor _ | .bnxor _ | .ldcImm _ _ | .ldintb _ | .shlLR1H _ | .shaLR1H _ | .shlLImm _ _ | .shaLImm _ _
  | .pushc _ | .popc _ | .fset _ | .fclr _ | .int _ => true

end Sys2Proof
end

