-- ==== Sys2Proof/Decode.lean ====
section
/-! DEFINITION. The decoder and the encoder, both written from 30_encoding.md: the first-byte map R135, the second-byte groups R136 to
R141, the operand codes R103 to R105, R108, R109 and R143, and the byte orders of R106. -/

namespace Sys2Proof

/-- Why a byte sequence is no instruction. No instruction stands for it, and the step relation has no successor (R142, D1). -/
inductive Reject where
  /-- The bytes end inside the instruction. Safe: the fetch supplies more bytes than any instruction has. -/
  | truncated
  /-- A first byte, second byte, condition or register code the manual does not assign (R142 class 1). Safe. -/
  | unassigned
  /-- An operand code printed "---", or a forbidden combination (R142 classes 2 and 3). Safe. -/
  | notSelectable
deriving DecidableEq, Repr

/-- A parser's answer: what it read and the bytes that follow, or why it stopped. -/
abbrev Parsed (α : Type) := Except Reject (α × List Byte)

/-- Reads one thing, then goes on with it and the bytes that follow. -/
def chain {α β : Type} (p : Parsed α) (k : α → List Byte → Parsed β) : Parsed β :=
  match p with
  | .ok (v, t) => k v t
  | .error e => .error e

/-- The terms that decoding and execution admit. -/
def Instr.selectable (i : Instr) : Bool := i.wellFormed

/-! ### Fields -/

/-- The low byte of a 16-bit field (R63). -/
def loByte (w : Word) : Byte := w.extractLsb' 0 8

/-- The high byte of a 16-bit field (R63). -/
def hiByte (w : Word) : Byte := w.extractLsb' 8 8

/-- The three bytes of a 20-bit field, low byte first, bits 23:20 zero (R64, D13). -/
def addrBytes (a : Addr) : List Byte :=
  [a.extractLsb' 0 8, a.extractLsb' 8 8, (a.extractLsb' 16 4).zeroExtend 8]

/-- The two bytes of a 16-bit field, low byte first (R64). -/
def wordBytes (w : Word) : List Byte := [loByte w, hiByte w]

def takeByte : List Byte → Parsed Byte
  | x :: t => .ok (x, t)
  | [] => .error .truncated

/-- A 16-bit field, low byte first (R64). -/
def takeWord : List Byte → Parsed Word
  | lo :: hi :: t => .ok (hi ++ lo, t)
  | _ => .error .truncated

/-- A 20-bit field in three bytes, low byte first; bits 23:20 are ignored (R64, D13). -/
def takeAddr : List Byte → Parsed Addr
  | x :: y :: z :: t => .ok (z.extractLsb' 0 4 ++ y ++ x, t)
  | _ => .error .truncated

/-- The size bit S, bit 0 of the first byte (R102). -/
def sizeOf (n : Nat) : Size := if n % 2 = 0 then .b else .w

def Size.code : Size → Nat
  | .b => 0
  | .w => 1

/-- An immediate of the instruction's size, low byte first (R110). -/
def takeImm (sz : Size) (t : List Byte) : Parsed Imm :=
  match sz with
  | .b =>
    chain (takeByte t) fun v t =>
    .ok (.b v, t)
  | .w =>
    chain (takeWord t) fun v t =>
    .ok (.w v, t)

def Imm.bytes : Imm → List Byte
  | .b v => [v]
  | .w v => wordBytes v

/-! ### Operand codes -/

/-- Codes 0000 to 0011 (R103). -/
def dregOf (n : Nat) : DReg :=
  match n with
  | 0 => .r0lR0
  | 1 => .r0hR1
  | 2 => .r1lR2
  | _ => .r1hR3

def DReg.code : DReg → Nat
  | .r0lR0 => 0
  | .r0hR1 => 1
  | .r1lR2 => 2
  | .r1hR3 => 3

/-- A0 = 0, A1 = 1 in every one-bit register field (R105 e). -/
def aregOf (n : Nat) : AReg := if n % 2 = 0 then .a0 else .a1

def AReg.code : AReg → Nat
  | .a0 => 0
  | .a1 => 1

/-- R0L = 0, R0H = 1 (R105 e). -/
def halfOf (n : Nat) : Half := if n % 2 = 0 then .r0l else .r0h

def Half.code : Half → Nat
  | .r0l => 0
  | .r0h => 1

/-- The memory operand of code 0110 to 1111 with its code bytes (R103). -/
def takeMem (n : Nat) (t : List Byte) : Parsed Mem :=
  match n with
  | 6 | 7 => .ok (.ind (aregOf n), t)
  | 8 | 9 =>
    chain (takeByte t) fun d t =>
    .ok (.dsp8A (aregOf n) d, t)
  | 10 =>
    chain (takeByte t) fun d t =>
    .ok (.dsp8SB d, t)
  | 11 =>
    chain (takeByte t) fun d t =>
    .ok (.dsp8FB d, t)
  | 12 | 13 =>
    chain (takeWord t) fun d t =>
    .ok (.dsp16A (aregOf n) d, t)
  | 14 =>
    chain (takeWord t) fun d t =>
    .ok (.dsp16SB d, t)
  | 15 =>
    chain (takeWord t) fun d t =>
    .ok (.abs16 d, t)
  | _ => .error .unassigned

def Mem.code : Mem → Nat
  | .ind a => 6 + a.code
  | .dsp8A a _ => 8 + a.code
  | .dsp8SB _ => 10
  | .dsp8FB _ => 11
  | .dsp16A a _ => 12 + a.code
  | .dsp16SB _ => 14
  | .abs16 _ => 15

def Mem.bytes : Mem → List Byte
  | .ind _ => []
  | .dsp8A _ d => [d]
  | .dsp8SB d => [d]
  | .dsp8FB d => [d]
  | .dsp16A _ d => wordBytes d
  | .dsp16SB d => wordBytes d
  | .abs16 d => wordBytes d

/-- The general operand of a 4-bit code with its code bytes (R103). -/
def takeOperand (n : Nat) (t : List Byte) : Parsed Operand :=
  if n < 4 then .ok (.dreg (dregOf n), t)
  else if n < 6 then .ok (.areg (aregOf n), t)
  else
    chain (takeMem n t) fun m t =>
    .ok (.mem m, t)

def Operand.code : Operand → Nat
  | .dreg r => r.code
  | .areg a => 4 + a.code
  | .mem m => m.code

def Operand.bytes : Operand → List Byte
  | .dreg _ => []
  | .areg _ => []
  | .mem m => m.bytes

/-- The bit operand of a 4-bit code with its code bytes (R104); the bit number of a register sits in the low four bits (R125, log 31). -/
def takeBitOperand (n : Nat) (t : List Byte) : Parsed BitOperand :=
  match n with
  | 0 | 1 | 2 | 3 =>
    chain (takeByte t) fun x t =>
    .ok (.dreg (dregOf n) (x.extractLsb' 0 4), t)
  | 4 | 5 =>
    chain (takeByte t) fun x t =>
    .ok (.areg (aregOf n) (x.extractLsb' 0 4), t)
  | 6 | 7 => .ok (.ind (aregOf n), t)
  | 8 | 9 =>
    chain (takeByte t) fun x t =>
    .ok (.base8A (aregOf n) x, t)
  | 10 =>
    chain (takeByte t) fun x t =>
    .ok (.base8SB x, t)
  | 11 =>
    chain (takeByte t) fun x t =>
    .ok (.base8FB x, t)
  | 12 | 13 =>
    chain (takeWord t) fun x t =>
    .ok (.base16A (aregOf n) x, t)
  | 14 =>
    chain (takeWord t) fun x t =>
    .ok (.base16SB x, t)
  | 15 =>
    chain (takeWord t) fun x t =>
    .ok (.base16 x, t)
  | _ => .error .unassigned

def BitOperand.code : BitOperand → Nat
  | .dreg r _ => r.code
  | .areg a _ => 4 + a.code
  | .ind a => 6 + a.code
  | .base8A a _ => 8 + a.code
  | .base8SB _ => 10
  | .base8FB _ => 11
  | .base16A a _ => 12 + a.code
  | .base16SB _ => 14
  | .base16 _ => 15

def BitOperand.bytes : BitOperand → List Byte
  | .dreg _ k => [k.zeroExtend 8]
  | .areg _ k => [k.zeroExtend 8]
  | .ind _ => []
  | .base8A _ x => [x]
  | .base8SB x => [x]
  | .base8FB x => [x]
  | .base16A _ x => wordBytes x
  | .base16SB x => wordBytes x
  | .base16 x => wordBytes x

/-- The memory operands of the two-bit short field: 01 dsp:8[SB], 10 dsp:8[FB], 11 abs16 (R105 b, d). -/
def takeShortMem (n : Nat) (t : List Byte) : Parsed ShortMem :=
  match n with
  | 1 =>
    chain (takeByte t) fun d t =>
    .ok (.dsp8SB d, t)
  | 2 =>
    chain (takeByte t) fun d t =>
    .ok (.dsp8FB d, t)
  | 3 =>
    chain (takeWord t) fun d t =>
    .ok (.abs16 d, t)
  | _ => .error .unassigned

def ShortMem.code : ShortMem → Nat
  | .dsp8SB _ => 1
  | .dsp8FB _ => 2
  | .abs16 _ => 3

def ShortMem.bytes : ShortMem → List Byte
  | .dsp8SB d => [d]
  | .dsp8FB d => [d]
  | .abs16 d => wordBytes d

/-- The two-bit SS field: 00 a half of R0 (R105 b, c). -/
def takeShortSrc (n : Nat) (t : List Byte) : Parsed ShortSrc :=
  if n = 0 then .ok (.half, t)
  else
    chain (takeShortMem n t) fun m t =>
    .ok (.mem m, t)

def ShortSrc.code : ShortSrc → Nat
  | .half => 0
  | .mem m => m.code

def ShortSrc.bytes : ShortSrc → List Byte
  | .half => []
  | .mem m => m.bytes

/-- The three-bit short DEST field: 011 R0H, 100 R0L, 101 dsp:8[SB], 110 dsp:8[FB], 111 abs16 (R105 a). -/
def takeShortDest (n : Nat) (t : List Byte) : Parsed ShortDest :=
  match n with
  | 3 => .ok (.half .r0h, t)
  | 4 => .ok (.half .r0l, t)
  | 5 | 6 | 7 =>
    chain (takeShortMem (n - 4) t) fun m t =>
    .ok (.mem m, t)
  | _ => .error .unassigned

def ShortDest.code : ShortDest → Nat
  | .half .r0h => 3
  | .half .r0l => 4
  | .mem m => 4 + m.code

def ShortDest.bytes : ShortDest → List Byte
  | .half _ => []
  | .mem m => m.bytes

/-- The memory operand of JMPI and JSRI: 1100 and 1101 are dsp:20[An] with three code bytes (R103, R474). -/
def takeIndMem (n : Nat) (t : List Byte) : Parsed IndMem :=
  if n = 12 ∨ n = 13 then
    chain (takeAddr t) fun d t =>
    .ok (.dsp20A (aregOf n) d, t)
  else
    chain (takeMem n t) fun m t =>
    .ok (.mem m, t)

def IndMem.code : IndMem → Nat
  | .mem m => m.code
  | .dsp20A a _ => 12 + a.code

def IndMem.bytes : IndMem → List Byte
  | .mem m => m.bytes
  | .dsp20A _ d => addrBytes d

/-- The operand of JMPI.W and JSRI.W (R474). -/
def takeIndW (n : Nat) (t : List Byte) : Parsed IndW :=
  if n < 4 then .ok (.dreg (dregOf n), t)
  else if n < 6 then .ok (.areg (aregOf n), t)
  else
    chain (takeIndMem n t) fun m t =>
    .ok (.mem m, t)

def IndW.code : IndW → Nat
  | .dreg r => r.code
  | .areg a => 4 + a.code
  | .mem m => m.code

def IndW.bytes : IndW → List Byte
  | .mem m => m.bytes
  | _ => []

/-- The register pairs of JMPI.A, JSRI.A and STC PC: 0000 R2R0, 0001 R3R1, 0100 A1A0; 0010, 0011 and 0101 are "---" (R475, R566). -/
def apairOf (n : Nat) : Option APair :=
  match n with
  | 0 => some .r2r0
  | 1 => some .r3r1
  | 4 => some .a1a0
  | _ => none

def APair.code : APair → Nat
  | .r2r0 => 0
  | .r3r1 => 1
  | .a1a0 => 4

/-- The operand of JMPI.A and JSRI.A (R475). -/
def takeIndA (n : Nat) (t : List Byte) : Parsed IndA :=
  if n < 6 then
    match apairOf n with
    | some p => .ok (.pair p, t)
    | none => .error .notSelectable
  else
    chain (takeIndMem n t) fun m t =>
    .ok (.mem m, t)

def IndA.code : IndA → Nat
  | .pair p => p.code
  | .mem m => m.code

def IndA.bytes : IndA → List Byte
  | .pair _ => []
  | .mem m => m.bytes

/-- The destination of STC PC (R566). -/
def takePcDest (n : Nat) (t : List Byte) : Parsed PcDest :=
  if n < 6 then
    match apairOf n with
    | some p => .ok (.pair p, t)
    | none => .error .notSelectable
  else
    chain (takeMem n t) fun m t =>
    .ok (.mem m, t)

def PcDest.code : PcDest → Nat
  | .pair p => p.code
  | .mem m => m.code

def PcDest.bytes : PcDest → List Byte
  | .pair _ => []
  | .mem m => m.bytes

/-- The destination of MOVA: R0 000, R1 001, R2 010, R3 011, A0 100, A1 101 (R213). -/
def movaDestOf (n : Nat) : Option MovaDest :=
  match n with
  | 0 | 1 | 2 | 3 => some (.dreg (dregOf n))
  | 4 | 5 => some (.areg (aregOf n))
  | _ => none

def MovaDest.code : MovaDest → Nat
  | .dreg r => r.code
  | .areg a => 4 + a.code

/-- The control register code (R109, R530). -/
def cregOf (n : Nat) : Option CReg :=
  match n with
  | 1 => some .intbl
  | 2 => some .intbh
  | 3 => some .flg
  | 4 => some .isp
  | 5 => some .sp
  | 6 => some .sb
  | 7 => some .fb
  | _ => none

def CReg.code : CReg → Nat
  | .intbl => 1
  | .intbh => 2
  | .flg => 3
  | .isp => 4
  | .sp => 5
  | .sb => 6
  | .fb => 7

/-- The flag code: the flag's bit number in FLG (R109). -/
def flagOf (n : Nat) : Flag :=
  match n with
  | 0 => .c
  | 1 => .d
  | 2 => .z
  | 3 => .s
  | 4 => .b
  | 5 => .o
  | 6 => .i
  | _ => .u

def Flag.code : Flag → Nat
  | .c => 0
  | .d => 1
  | .z => 2
  | .s => 3
  | .b => 4
  | .o => 5
  | .i => 6
  | .u => 7

/-- The 4-bit condition code CND4 of JCnd and BMCnd C; the one-byte JCnd uses its values 0 to 7 as a 3-bit code (R143). -/
def condOf (n : Nat) : Option Cond :=
  match n with
  | 0 => some .geu
  | 1 => some .gtu
  | 2 => some .eq
  | 3 => some .n
  | 4 => some .ltu
  | 5 => some .leu
  | 6 => some .ne
  | 7 => some .pz
  | 8 => some .le
  | 9 => some .o
  | 10 => some .ge
  | 12 => some .gt
  | 13 => some .no
  | 14 => some .lt
  | _ => none

def Cond.code : Cond → Nat
  | .geu => 0
  | .gtu => 1
  | .eq => 2
  | .n => 3
  | .ltu => 4
  | .leu => 5
  | .ne => 6
  | .pz => 7
  | .le => 8
  | .o => 9
  | .ge => 10
  | .gt => 12
  | .no => 13
  | .lt => 14

/-- The CND byte of `BMCnd dest` (R143). -/
def condOfByte (n : Nat) : Option Cond :=
  match n with
  | 0x00 => some .geu
  | 0x01 => some .gtu
  | 0x02 => some .eq
  | 0x03 => some .n
  | 0x04 => some .le
  | 0x05 => some .o
  | 0x06 => some .ge
  | 0xF8 => some .ltu
  | 0xF9 => some .leu
  | 0xFA => some .ne
  | 0xFB => some .pz
  | 0xFC => some .gt
  | 0xFD => some .no
  | 0xFE => some .lt
  | _ => none

def Cond.byte : Cond → Byte
  | .geu => 0x00
  | .gtu => 0x01
  | .eq => 0x02
  | .n => 0x03
  | .le => 0x04
  | .o => 0x05
  | .ge => 0x06
  | .ltu => 0xF8
  | .leu => 0xF9
  | .ne => 0xFA
  | .pz => 0xFB
  | .gt => 0xFC
  | .no => 0xFD
  | .lt => 0xFE

/-- The DIR field: LL 00, HL 01, LH 10, HH 11 (R214). -/
def dirOf (n : Nat) : Dir :=
  match n with
  | 0 => .ll
  | 1 => .hl
  | 2 => .lh
  | _ => .hh

def Dir.code : Dir → Nat
  | .ll => 0
  | .hl => 1
  | .lh => 2
  | .hh => 3

/-- R2R0 = 0, R3R1 = 1 (R105 e). -/
def pairOf (n : Nat) : Pair := if n % 2 = 0 then .r2r0 else .r3r1

def Pair.code : Pair → Nat
  | .r2r0 => 0
  | .r3r1 => 1

/-- The shift count code: bit 3 the direction, bits 2:0 the magnitude minus one (R108 c). -/
def shiftCountOf (n : Nat) : ShiftCount := ⟨decide (8 ≤ n % 16), BitVec.ofNat 3 n⟩

def ShiftCount.code (k : ShiftCount) : Nat := (if k.right then 8 else 0) + k.less1.toNat

/-- POPM's register list: bits 7 to 0 are FB, SB, A1, A0, R3, R2, R1, R0 (R220). -/
def popmList (x : Byte) : RegList :=
  { r0 := x.getLsbD 0, r1 := x.getLsbD 1, r2 := x.getLsbD 2, r3 := x.getLsbD 3,
    a0 := x.getLsbD 4, a1 := x.getLsbD 5, sb := x.getLsbD 6, fb := x.getLsbD 7 }

/-- PUSHM's register list: bits 7 to 0 are R0, R1, R2, R3, A0, A1, SB, FB (R226). -/
def pushmList (x : Byte) : RegList :=
  { r0 := x.getLsbD 7, r1 := x.getLsbD 6, r2 := x.getLsbD 5, r3 := x.getLsbD 4,
    a0 := x.getLsbD 3, a1 := x.getLsbD 2, sb := x.getLsbD 1, fb := x.getLsbD 0 }

/-- Eight bits as a byte, the most significant first. -/
def byteOfBits (b7 b6 b5 b4 b3 b2 b1 b0 : Bool) : Byte :=
  BitVec.ofBool b7 ++ BitVec.ofBool b6 ++ BitVec.ofBool b5 ++ BitVec.ofBool b4 ++
  BitVec.ofBool b3 ++ BitVec.ofBool b2 ++ BitVec.ofBool b1 ++ BitVec.ofBool b0

def RegList.popmByte (l : RegList) : Byte := byteOfBits l.fb l.sb l.a1 l.a0 l.r3 l.r2 l.r1 l.r0

def RegList.pushmByte (l : RegList) : Byte := byteOfBits l.r0 l.r1 l.r2 l.r3 l.a0 l.a1 l.sb l.fb

/-! ### The decoder -/

/-- Ends the reading of an instruction: a term that is not selectable is rejected (R142 classes 2 and 3). -/
def emit (i : Instr) (t : List Byte) : Parsed Instr :=
  if i.selectable then .ok (i, t) else .error .notSelectable

/-- A code that carries an assigned field value, or none. -/
def assigned {α : Type} (x : Option α) (k : α → Parsed Instr) : Parsed Instr :=
  match x with
  | some v => k v
  | none => .error .unassigned

/-- G format with two operands: second byte SRC DEST, then src code bytes, then dest code bytes (R106). -/
def takeG (mk : Size → Operand → Operand → Instr) (n : Nat) (t : List Byte) : Parsed Instr :=
  chain (takeByte t) fun b2 t =>
  chain (takeOperand (b2.toNat / 16) t) fun src t =>
  chain (takeOperand (b2.toNat % 16) t) fun dst t =>
  emit (mk (sizeOf n) src dst) t

/-- Q format: second byte IMM4 DEST, then dest code bytes (R106). -/
def takeQ (mk : Size → BitVec 4 → Operand → Instr) (n : Nat) (t : List Byte) : Parsed Instr :=
  chain (takeByte t) fun b2 t =>
  chain (takeOperand (b2.toNat % 16) t) fun dst t =>
  emit (mk (sizeOf n) (BitVec.ofNat 4 (b2.toNat / 16)) dst) t

/-- ROT, SHL, SHA with `#IMM`: second byte IMM4 DEST (R108 c). -/
def takeShift (mk : Size → ShiftCount → Operand → Instr) (n : Nat) (t : List Byte) : Parsed Instr :=
  chain (takeByte t) fun b2 t =>
  chain (takeOperand (b2.toNat % 16) t) fun dst t =>
  emit (mk (sizeOf n) (shiftCountOf (b2.toNat / 16)) dst) t

/-- ADJNZ: second byte IMM4 DEST, dest code bytes, dsp8 of the label (R106, R461). SBJNZ has the same code (R462, log 34). -/
def takeAdjnz (n : Nat) (t : List Byte) : Parsed Instr :=
  chain (takeByte t) fun b2 t =>
  chain (takeOperand (b2.toNat % 16) t) fun dst t =>
  chain (takeByte t) fun d t =>
  emit (.adjnz (sizeOf n) (BitVec.ofNat 4 (b2.toNat / 16)) dst d) t

/-- One operand after a group's second byte. -/
def takeOne (mk : Operand → Instr) (n : Nat) (t : List Byte) : Parsed Instr :=
  chain (takeOperand n t) fun x t =>
  emit (mk x) t

/-- dest code bytes, then #IMM8 or #IMM16 (R106). -/
def takeDestImm (mk : Imm → Operand → Instr) (sz : Size) (n : Nat) (t : List Byte) : Parsed Instr :=
  chain (takeOperand n t) fun x t =>
  chain (takeImm sz t) fun v t =>
  emit (mk v x) t

/-- An operand, then abs20 or dsp20 (R106). -/
def takeOneAddr (mk : Addr → Operand → Instr) (n : Nat) (t : List Byte) : Parsed Instr :=
  chain (takeOperand n t) fun x t =>
  chain (takeAddr t) fun a t =>
  emit (mk a x) t

/-- An operand, then dsp8 (R106). -/
def takeOneByte (mk : Byte → Operand → Instr) (n : Nat) (t : List Byte) : Parsed Instr :=
  chain (takeOperand n t) fun x t =>
  chain (takeByte t) fun d t =>
  emit (mk d x) t

/-- #IMM8, then the short destination's code bytes (R106). -/
def takeShortImm (mk : Byte → ShortDest → Instr) (n : Nat) (t : List Byte) : Parsed Instr :=
  chain (takeByte t) fun v t =>
  chain (takeShortDest n t) fun d t =>
  emit (mk v d) t

/-- STZX: #IMM81, the destination's code bytes, #IMM82 (R106, R237). -/
def takeStzx (n : Nat) (t : List Byte) : Parsed Instr :=
  chain (takeByte t) fun v1 t =>
  chain (takeShortDest n t) fun d t =>
  chain (takeByte t) fun v2 t =>
  emit (.stzx v1 v2 d) t

/-- A short destination alone. -/
def takeShort (mk : ShortDest → Instr) (n : Nat) (t : List Byte) : Parsed Instr :=
  chain (takeShortDest n t) fun d t =>
  emit (mk d) t

/-- `src,R0L/R0H`: fields D (bit 2) and SS (bits 1:0) (R105 b). -/
def takeSS (mk : Half → ShortSrc → Instr) (n : Nat) (t : List Byte) : Parsed Instr :=
  chain (takeShortSrc (n % 4) t) fun x t =>
  emit (mk (halfOf (n / 4)) x) t

/-- One code byte. -/
def takeB (mk : Byte → Instr) (t : List Byte) : Parsed Instr :=
  chain (takeByte t) fun v t =>
  emit (mk v) t

/-- One 16-bit field. -/
def takeW (mk : Word → Instr) (t : List Byte) : Parsed Instr :=
  chain (takeWord t) fun v t =>
  emit (mk v) t

/-- One 20-bit field. -/
def takeA (mk : Addr → Instr) (t : List Byte) : Parsed Instr :=
  chain (takeAddr t) fun v t =>
  emit (mk v) t

/-- An immediate of the size alone. -/
def takeI (mk : Imm → Instr) (sz : Size) (t : List Byte) : Parsed Instr :=
  chain (takeImm sz t) fun v t =>
  emit (mk v) t

/-- Group 74/75 (R136). -/
def group74 (sz : Size) (t : List Byte) : Parsed Instr :=
  chain (takeByte t) fun b2 t =>
  let x := b2.toNat % 16
  match b2.toNat / 16 with
  | 0 => takeOneAddr (fun a o => .steAbs20 sz o a) x t
  | 1 => takeOneAddr (fun a o => .steDsp20 sz o a) x t
  | 2 => takeOne (.steA1A0 sz) x t
  | 3 => takeOneByte (fun d o => .movToSp sz o d) x t
  | 4 => takeOne (.pushG sz) x t
  | 5 => takeOne (.neg sz) x t
  | 6 => takeOne (.rotR1H sz) x t
  | 7 => takeOne (.notG sz) x t
  | 8 => takeOneAddr (fun a o => .ldeAbs20 sz a o) x t
  | 9 => takeOneAddr (fun a o => .ldeDsp20 sz a o) x t
  | 10 => takeOne (.ldeA1A0 sz) x t
  | 11 => takeOneByte (fun d o => .movFromSp sz d o) x t
  | 12 => takeDestImm .movGImm sz x t
  | 13 => takeOne (.popG sz) x t
  | 14 => takeOne (.shlR1H sz) x t
  | _ => takeOne (.shaR1H sz) x t

/-- Group 76/77 (R137). -/
def group76 (sz : Size) (t : List Byte) : Parsed Instr :=
  chain (takeByte t) fun b2 t =>
  let x := b2.toNat % 16
  match b2.toNat / 16 with
  | 0 => takeDestImm .tstImm sz x t
  | 1 => takeDestImm .xorImm sz x t
  | 2 => takeDestImm .andImm sz x t
  | 3 => takeDestImm .orImm sz x t
  | 4 => takeDestImm .addImm sz x t
  | 5 => takeDestImm .subImm sz x t
  | 6 => takeDestImm .adcImm sz x t
  | 7 => takeDestImm .sbbImm sz x t
  | 8 => takeDestImm .cmpImm sz x t
  | 9 => takeOne (.divx sz) x t
  | 10 => takeOne (.rolc sz) x t
  | 11 => takeOne (.rorc sz) x t
  | 12 => takeOne (.divu sz) x t
  | 13 => takeOne (.div sz) x t
  | 14 => takeOne (.adcf sz) x t
  | _ => takeOne (.abs sz) x t

/-- First byte 7A or 7B (R138): LDC and STC with second bit 7 set, XCHG with second bits 7:6 = 00. -/
def group7A (n : Nat) (t : List Byte) : Parsed Instr :=
  chain (takeByte t) fun b2 t =>
  let y := b2.toNat
  if 0x80 ≤ y then
    if n = 0x7A then assigned (cregOf (y / 16 % 8)) fun c => takeOne (.ldc c) (y % 16) t
    else assigned (cregOf (y / 16 % 8)) fun c => takeOne (.stc c) (y % 16) t
  else if y < 0x40 then takeOne (.xchg (sizeOf n) (dregOf (y / 16))) (y % 16) t
  else .error .unassigned

/-- First byte 7C or 7D, second bytes E0 to FF (R139). -/
def group7CE (sz : Size) (y : Nat) (t : List Byte) : Parsed Instr :=
  match y with
  | 0xE0 => takeI .divuImm sz t
  | 0xE1 => takeI .divImm sz t
  | 0xE2 => takeI .pushImm sz t
  | 0xE3 => takeI .divxImm sz t
  | 0xE4 => emit (.daddReg sz) t
  | 0xE5 => emit (.dsubReg sz) t
  | 0xE6 => emit (.dadcReg sz) t
  | 0xE7 => emit (.dsbbReg sz) t
  | 0xE8 => emit (.smovf sz) t
  | 0xE9 => emit (.smovb sz) t
  | 0xEA => emit (.sstr sz) t
  | 0xEB => takeI .addImmSp sz t
  | 0xEC => takeI .daddImm sz t
  | 0xED => takeI .dsubImm sz t
  | 0xEE => takeI .dadcImm sz t
  | 0xEF => takeI .dsbbImm sz t
  | 0xF0 =>
    chain (takeWord t) fun n t =>
    chain (takeAddr t) fun a t =>
    match sz with
    | .b => emit (.ldctx n a) t
    | .w => emit (.stctx n a) t
  | 0xF1 => emit (.rmpa sz) t
  | 0xF2 =>
    match sz with
    | .b => takeB .enter t
    | .w => emit .exitd t
  | 0xF3 =>
    match sz with
    | .b => emit .extsW t
    | .w => emit .wait t
  | _ => .error .unassigned

/-- First byte 7C, second bytes below E0 (R139). -/
def group7C (y : Nat) (t : List Byte) : Parsed Instr :=
  match y / 16 with
  | 0 | 1 | 2 | 3 => takeOne (.movDirToR0L (dirOf (y / 16))) (y % 16) t
  | 4 => takeDestImm .muluImm .b (y % 16) t
  | 5 => takeDestImm .mulImm .b (y % 16) t
  | 6 => takeOne .extsB (y % 16) t
  | 8 | 9 | 10 | 11 => takeOne (.movDirFromR0L (dirOf (y / 16 - 8))) (y % 16) t
  | 12 =>
    chain (takePcDest (y % 16) t) fun x t =>
    emit (.stcPc x) t
  | _ => .error .unassigned

/-- First byte 7D, second bytes below E0 (R139). -/
def group7D (y : Nat) (t : List Byte) : Parsed Instr :=
  match y / 16 with
  | 0 =>
    chain (takeIndA (y % 16) t) fun x t =>
    emit (.jmpiA x) t
  | 1 =>
    chain (takeIndA (y % 16) t) fun x t =>
    emit (.jsriA x) t
  | 2 =>
    chain (takeIndW (y % 16) t) fun x t =>
    emit (.jmpiW x) t
  | 3 =>
    chain (takeIndW (y % 16) t) fun x t =>
    emit (.jsriW x) t
  | 4 => takeDestImm .muluImm .w (y % 16) t
  | 5 => takeDestImm .mulImm .w (y % 16) t
  | 9 =>
    chain (takeMem (y % 16) t) fun m t =>
    emit (.pusha m) t
  | 10 => if y % 16 < 8 then emit (.ldipl (BitVec.ofNat 3 y)) t else .error .unassigned
  | 11 => emit (.addQSp (BitVec.ofNat 4 y)) t
  | 12 => assigned (condOf (y % 16)) fun c => takeB (.jcndLong c) t
  | 13 => assigned (condOf (y % 16)) fun c => emit (.bmcndC c) t
  | _ => .error .unassigned

/-- Group 7E, the bit instructions (R140). -/
def group7E (t : List Byte) : Parsed Instr :=
  chain (takeByte t) fun b2 t =>
  chain (takeBitOperand (b2.toNat % 16) t) fun x t =>
  match b2.toNat / 16 with
  | 0 => emit (.btstc x) t
  | 1 => emit (.btsts x) t
  | 2 =>
    chain (takeByte t) fun k t =>
    assigned (condOfByte k.toNat) fun c => emit (.bmcnd c x) t
  | 3 => emit (.bntst x) t
  | 4 => emit (.band x) t
  | 5 => emit (.bnand x) t
  | 6 => emit (.bor x) t
  | 7 => emit (.bnor x) t
  | 8 => emit (.bclrG x) t
  | 9 => emit (.bsetG x) t
  | 10 => emit (.bnotG x) t
  | 11 => emit (.btstG x) t
  | 12 => emit (.bxor x) t
  | 13 => emit (.bnxor x) t
  | _ => .error .unassigned

/-- Group EB (R141). LDINTB's words are two LDC instructions (R540, log 34). -/
def groupEB (t : List Byte) : Parsed Instr :=
  chain (takeByte t) fun b2 t =>
  let y := b2.toNat
  if 0xC0 ≤ y then emit (.int (BitVec.ofNat 6 y)) t
  else if 0xA0 ≤ y then emit (.shaLImm (pairOf (y / 16)) (shiftCountOf y)) t
  else if 0x80 ≤ y then emit (.shlLImm (pairOf (y / 16)) (shiftCountOf y)) t
  else
    match y % 16 with
    | 0 => assigned (cregOf (y / 16)) fun c => takeW (.ldcImm c) t
    | 1 =>
      if y < 0x20 then emit (.shlLR1H (pairOf (y / 16))) t
      else if y < 0x40 then emit (.shaLR1H (pairOf (y / 16))) t
      else .error .unassigned
    | 2 => assigned (cregOf (y / 16)) fun c => emit (.pushc c) t
    | 3 => assigned (cregOf (y / 16)) fun c => emit (.popc c) t
    | 4 => emit (.fset (flagOf (y / 16))) t
    | 5 => emit (.fclr (flagOf (y / 16))) t
    | 6 | 7 => .error .unassigned
    | _ => assigned (movaDestOf (y / 16)) fun d =>
      chain (takeMem (y % 16) t) fun m t =>
      emit (.mova m d) t

/-- First bytes 00 to 7F (R135), in blocks of eight. -/
def decodeLow (n : Nat) (t : List Byte) : Parsed Instr :=
  match n / 8 with
  | 0 =>
    if n = 0 then emit .brk t
    else if n = 4 then emit .nop t
    else
      chain (takeShortMem (n % 4) t) fun m t =>
      emit (.movSHalfDest (halfOf (n / 4)) m) t
  | 1 => takeSS .movSSrcHalf (n % 8) t
  | 2 => takeSS .andSSrcHalf (n % 8) t
  | 3 => takeSS .orSSrcHalf (n % 8) t
  | 4 => takeSS .addSSrcHalf (n % 8) t
  | 5 => takeSS .subSSrcHalf (n % 8) t
  | 6 =>
    chain (takeShortSrc (n % 4) t) fun x t =>
    emit (.movSSrcA (aregOf (n / 4)) x) t
  | 7 => takeSS .cmpSSrcHalf (n % 8) t
  | 8 => takeB (.bclrS (BitVec.ofNat 3 n)) t
  | 9 => takeB (.bsetS (BitVec.ofNat 3 n)) t
  | 10 => takeB (.bnotS (BitVec.ofNat 3 n)) t
  | 11 => takeB (.btstS (BitVec.ofNat 3 n)) t
  | 12 => emit (.jmpS (BitVec.ofNat 3 n)) t
  | 13 => assigned (condOf (n % 8)) fun c => takeB (.jcndShort c) t
  | 14 =>
    if n < 0x72 then takeG .muluG n t
    else if n < 0x74 then takeG .movG n t
    else if n < 0x76 then group74 (sizeOf n) t
    else group76 (sizeOf n) t
  | _ =>
    if n < 0x7A then takeG .mulG n t
    else if n < 0x7C then group7A n t
    else if n < 0x7E then
      chain (takeByte t) fun b2 t =>
      if 0xE0 ≤ b2.toNat then group7CE (sizeOf n) b2.toNat t
      else if n = 0x7C then group7C b2.toNat t
      else group7D b2.toNat t
    else if n = 0x7E then group7E t
    else .error .unassigned

/-- A block of eight first bytes from 80 on: 0 and 1 a two-byte form with the size bit, 2 a one-byte register form, 3 to 7 a short
destination (R105 a, R135). -/
def block (n : Nat) (two one short : Parsed Instr) : Parsed Instr :=
  if n % 8 < 2 then two else if n % 8 = 2 then one else short

/-- First bytes 80 to FF (R135). -/
def decodeHigh (n : Nat) (t : List Byte) : Parsed Instr :=
  match n / 8 with
  | 16 => block n (takeG .tstG n t) (emit (.pushBS .r0l) t) (takeShortImm .addSImm (n % 8) t)
  | 17 => block n (takeG .xorG n t) (emit (.pushBS .r0h) t) (takeShortImm .subSImm (n % 8) t)
  | 18 => block n (takeG .andG n t) (emit (.popBS .r0l) t) (takeShortImm .andSImm (n % 8) t)
  | 19 => block n (takeG .orG n t) (emit (.popBS .r0h) t) (takeShortImm .orSImm (n % 8) t)
  | 20 => block n (takeG .addG n t) (takeW (.movWSImmA .a0) t) (takeShort .incB (n % 8) t)
  | 21 => block n (takeG .subG n t) (takeW (.movWSImmA .a1) t) (takeShort .decB (n % 8) t)
  | 22 => block n (takeG .adcG n t) (emit (.incW .a0) t) (takeShort .movZ (n % 8) t)
  | 23 => block n (takeG .sbbG n t) (emit (.incW .a1) t) (takeShort .notS (n % 8) t)
  | 24 => block n (takeG .cmpG n t) (emit (.pushWS .a0) t) (takeShortImm .movSImm (n % 8) t)
  | 25 => block n (takeQ .addQ n t) (emit (.pushWS .a1) t) (takeShortImm .stz (n % 8) t)
  | 26 => block n (takeQ .cmpQ n t) (emit (.popWS .a0) t) (takeShortImm .stnz (n % 8) t)
  | 27 => block n (takeQ .movQ n t) (emit (.popWS .a1) t) (takeStzx (n % 8) t)
  | 28 => block n (takeShift .rotImm n t) (takeB (.movBSImmA .a0) t) (takeShortImm .cmpSImm (n % 8) t)
  | 29 =>
    match n with
    | 0xE8 | 0xE9 => takeShift .shlImm n t
    | 0xEA => takeB (.movBSImmA .a1) t
    | 0xEB => groupEB t
    | 0xEC => takeB (fun x => .pushm (pushmList x)) t
    | 0xED => takeB (fun x => .popm (popmList x)) t
    | 0xEE => takeB .jmps t
    | _ => takeB .jsrs t
  | 30 =>
    match n with
    | 0xF0 | 0xF1 => takeShift .shaImm n t
    | 0xF2 => emit (.decW .a0) t
    | 0xF3 => emit .rts t
    | 0xF4 => takeW .jmpW t
    | 0xF5 => takeW .jsrW t
    | 0xF6 => emit .into t
    | _ => .error .unassigned
  | _ =>
    match n with
    | 0xF8 | 0xF9 => takeAdjnz n t
    | 0xFA => emit (.decW .a1) t
    | 0xFB => emit .reit t
    | 0xFC => takeA .jmpA t
    | 0xFD => takeA .jsrA t
    | 0xFE => takeB .jmpB t
    | _ => emit .und t

/-- Reads one instruction from bytes at increasing addresses, and answers the bytes after it (R100, R107). -/
def decode : List Byte → Parsed Instr
  | [] => .error .truncated
  | x :: t => if x.toNat < 0x80 then decodeLow x.toNat t else decodeHigh x.toNat t

/-! ### The encoder -/

/-- The byte of a number. -/
def byte (n : Nat) : Byte := BitVec.ofNat 8 n

/-- Two op-code bytes `first | hi lo`, then code bytes. -/
def two (first hi lo : Nat) (t : List Byte) : List Byte := byte first :: byte (16 * hi + lo) :: t

/-- G format, two operands (R106). -/
def encG (first : Nat) (sz : Size) (src dst : Operand) : List Byte :=
  two (first + sz.code) src.code dst.code (src.bytes ++ dst.bytes)

/-- A second byte `hi DEST` after a first byte with the size bit. -/
def encOne (first hi : Nat) (sz : Size) (x : Operand) (t : List Byte) : List Byte :=
  two (first + sz.code) hi x.code (x.bytes ++ t)

/-- `src,R0L/R0H` (R105 b). -/
def encSS (first : Nat) (h : Half) (x : ShortSrc) : List Byte := byte (first + 4 * h.code + x.code) :: x.bytes

/-- A short form with an immediate (R106). -/
def encShortImm (first : Nat) (v : Byte) (d : ShortDest) : List Byte := byte (first + d.code) :: v :: d.bytes

/-- A short form without an immediate. -/
def encShort (first : Nat) (d : ShortDest) : List Byte := byte (first + d.code) :: d.bytes

/-- A bit instruction of group 7E (R140). -/
def encBit (hi : Nat) (x : BitOperand) (t : List Byte) : List Byte := two 0x7E hi x.code (x.bytes ++ t)

/-- The bytes of an instruction, in increasing addresses. -/
def encode : Instr → List Byte
  | .brk => [0x00]
  | .movSHalfDest h m => byte (4 * h.code + m.code) :: m.bytes
  | .nop => [0x04]
  | .movSSrcHalf h x => encSS 0x08 h x
  | .andSSrcHalf h x => encSS 0x10 h x
  | .orSSrcHalf h x => encSS 0x18 h x
  | .addSSrcHalf h x => encSS 0x20 h x
  | .subSSrcHalf h x => encSS 0x28 h x
  | .movSSrcA a x => byte (0x30 + 4 * a.code + x.code) :: x.bytes
  | .cmpSSrcHalf h x => encSS 0x38 h x
  | .bclrS k d => [byte (0x40 + k.toNat), d]
  | .bsetS k d => [byte (0x48 + k.toNat), d]
  | .bnotS k d => [byte (0x50 + k.toNat), d]
  | .btstS k d => [byte (0x58 + k.toNat), d]
  | .jmpS d => [byte (0x60 + d.toNat)]
  | .jcndShort c d => [byte (0x68 + c.code), d]
  | .pushBS h => [byte (0x82 + 8 * h.code)]
  | .popBS h => [byte (0x92 + 8 * h.code)]
  | .pushWS a => [byte (0xC2 + 8 * a.code)]
  | .popWS a => [byte (0xD2 + 8 * a.code)]
  | .movWSImmA a v => byte (0xA2 + 8 * a.code) :: wordBytes v
  | .movBSImmA a v => [byte (0xE2 + 8 * a.code), v]
  | .incW a => [byte (0xB2 + 8 * a.code)]
  | .decW a => [byte (0xF2 + 8 * a.code)]
  | .addSImm v d => encShortImm 0x80 v d
  | .subSImm v d => encShortImm 0x88 v d
  | .andSImm v d => encShortImm 0x90 v d
  | .orSImm v d => encShortImm 0x98 v d
  | .incB d => encShort 0xA0 d
  | .decB d => encShort 0xA8 d
  | .movZ d => encShort 0xB0 d
  | .notS d => encShort 0xB8 d
  | .movSImm v d => encShortImm 0xC0 v d
  | .stz v d => encShortImm 0xC8 v d
  | .stnz v d => encShortImm 0xD0 v d
  | .stzx v1 v2 d => byte (0xD8 + d.code) :: v1 :: (d.bytes ++ [v2])
  | .cmpSImm v d => encShortImm 0xE0 v d
  | .pushm l => [0xEC, l.pushmByte]
  | .popm l => [0xED, l.popmByte]
  | .jmps n => [0xEE, n]
  | .jsrs n => [0xEF, n]
  | .rts => [0xF3]
  | .jmpW d => 0xF4 :: wordBytes d
  | .jsrW d => 0xF5 :: wordBytes d
  | .into => [0xF6]
  | .reit => [0xFB]
  | .jmpA t => 0xFC :: addrBytes t
  | .jsrA t => 0xFD :: addrBytes t
  | .jmpB d => [0xFE, d]
  | .und => [0xFF]
  | .muluG sz src dst => encG 0x70 sz src dst
  | .movG sz src dst => encG 0x72 sz src dst
  | .mulG sz src dst => encG 0x78 sz src dst
  | .tstG sz src dst => encG 0x80 sz src dst
  | .xorG sz src dst => encG 0x88 sz src dst
  | .andG sz src dst => encG 0x90 sz src dst
  | .orG sz src dst => encG 0x98 sz src dst
  | .addG sz src dst => encG 0xA0 sz src dst
  | .subG sz src dst => encG 0xA8 sz src dst
  | .adcG sz src dst => encG 0xB0 sz src dst
  | .sbbG sz src dst => encG 0xB8 sz src dst
  | .cmpG sz src dst => encG 0xC0 sz src dst
  | .addQ sz v dst => encOne 0xC8 v.toNat sz dst []
  | .cmpQ sz v dst => encOne 0xD0 v.toNat sz dst []
  | .movQ sz v dst => encOne 0xD8 v.toNat sz dst []
  | .rotImm sz k dst => encOne 0xE0 k.code sz dst []
  | .shlImm sz k dst => encOne 0xE8 k.code sz dst []
  | .shaImm sz k dst => encOne 0xF0 k.code sz dst []
  | .adjnz sz v dst d => encOne 0xF8 v.toNat sz dst [d]
  | .sbjnz sz v dst d => encOne 0xF8 (-v).toNat sz dst [d]
  | .steAbs20 sz src t => encOne 0x74 0 sz src (addrBytes t)
  | .steDsp20 sz src d => encOne 0x74 1 sz src (addrBytes d)
  | .steA1A0 sz src => encOne 0x74 2 sz src []
  | .movToSp sz src d => encOne 0x74 3 sz src [d]
  | .pushG sz src => encOne 0x74 4 sz src []
  | .neg sz dst => encOne 0x74 5 sz dst []
  | .rotR1H sz dst => encOne 0x74 6 sz dst []
  | .notG sz dst => encOne 0x74 7 sz dst []
  | .ldeAbs20 sz t dst => encOne 0x74 8 sz dst (addrBytes t)
  | .ldeDsp20 sz d dst => encOne 0x74 9 sz dst (addrBytes d)
  | .ldeA1A0 sz dst => encOne 0x74 10 sz dst []
  | .movFromSp sz d dst => encOne 0x74 11 sz dst [d]
  | .movGImm v dst => encOne 0x74 12 v.size dst v.bytes
  | .popG sz dst => encOne 0x74 13 sz dst []
  | .shlR1H sz dst => encOne 0x74 14 sz dst []
  | .shaR1H sz dst => encOne 0x74 15 sz dst []
  | .tstImm v dst => encOne 0x76 0 v.size dst v.bytes
  | .xorImm v dst => encOne 0x76 1 v.size dst v.bytes
  | .andImm v dst => encOne 0x76 2 v.size dst v.bytes
  | .orImm v dst => encOne 0x76 3 v.size dst v.bytes
  | .addImm v dst => encOne 0x76 4 v.size dst v.bytes
  | .subImm v dst => encOne 0x76 5 v.size dst v.bytes
  | .adcImm v dst => encOne 0x76 6 v.size dst v.bytes
  | .sbbImm v dst => encOne 0x76 7 v.size dst v.bytes
  | .cmpImm v dst => encOne 0x76 8 v.size dst v.bytes
  | .divx sz src => encOne 0x76 9 sz src []
  | .rolc sz dst => encOne 0x76 10 sz dst []
  | .rorc sz dst => encOne 0x76 11 sz dst []
  | .divu sz src => encOne 0x76 12 sz src []
  | .div sz src => encOne 0x76 13 sz src []
  | .adcf sz dst => encOne 0x76 14 sz dst []
  | .abs sz dst => encOne 0x76 15 sz dst []
  | .ldc c src => two 0x7A (8 + c.code) src.code src.bytes
  | .stc c dst => two 0x7B (8 + c.code) dst.code dst.bytes
  | .xchg sz r dst => two (0x7A + sz.code) r.code dst.code dst.bytes
  | .movDirToR0L d src => two 0x7C d.code src.code src.bytes
  | .movDirFromR0L d dst => two 0x7C (8 + d.code) dst.code dst.bytes
  | .muluImm v dst => encOne 0x7C 4 v.size dst v.bytes
  | .mulImm v dst => encOne 0x7C 5 v.size dst v.bytes
  | .extsB dst => two 0x7C 6 dst.code dst.bytes
  | .stcPc x => two 0x7C 12 x.code x.bytes
  | .jmpiA x => two 0x7D 0 x.code x.bytes
  | .jsriA x => two 0x7D 1 x.code x.bytes
  | .jmpiW x => two 0x7D 2 x.code x.bytes
  | .jsriW x => two 0x7D 3 x.code x.bytes
  | .pusha m => two 0x7D 9 m.code m.bytes
  | .ldipl l => two 0x7D 10 l.toNat []
  | .addQSp v => two 0x7D 11 v.toNat []
  | .jcndLong c d => two 0x7D 12 c.code [d]
  | .bmcndC c => two 0x7D 13 c.code []
  | .divuImm v => two (0x7C + v.size.code) 14 0 v.bytes
  | .divImm v => two (0x7C + v.size.code) 14 1 v.bytes
  | .pushImm v => two (0x7C + v.size.code) 14 2 v.bytes
  | .divxImm v => two (0x7C + v.size.code) 14 3 v.bytes
  | .daddReg sz => two (0x7C + sz.code) 14 4 []
  | .dsubReg sz => two (0x7C + sz.code) 14 5 []
  | .dadcReg sz => two (0x7C + sz.code) 14 6 []
  | .dsbbReg sz => two (0x7C + sz.code) 14 7 []
  | .smovf sz => two (0x7C + sz.code) 14 8 []
  | .smovb sz => two (0x7C + sz.code) 14 9 []
  | .sstr sz => two (0x7C + sz.code) 14 10 []
  | .addImmSp v => two (0x7C + v.size.code) 14 11 v.bytes
  | .daddImm v => two (0x7C + v.size.code) 14 12 v.bytes
  | .dsubImm v => two (0x7C + v.size.code) 14 13 v.bytes
  | .dadcImm v => two (0x7C + v.size.code) 14 14 v.bytes
  | .dsbbImm v => two (0x7C + v.size.code) 14 15 v.bytes
  | .rmpa sz => two (0x7C + sz.code) 15 1 []
  | .ldctx n t => two 0x7C 15 0 (wordBytes n ++ addrBytes t)
  | .stctx n t => two 0x7D 15 0 (wordBytes n ++ addrBytes t)
  | .enter n => two 0x7C 15 2 [n]
  | .exitd => two 0x7D 15 2 []
  | .extsW => two 0x7C 15 3 []
  | .wait => two 0x7D 15 3 []
  | .btstc x => encBit 0 x []
  | .btsts x => encBit 1 x []
  | .bmcnd c x => encBit 2 x [c.byte]
  | .bntst x => encBit 3 x []
  | .band x => encBit 4 x []
  | .bnand x => encBit 5 x []
  | .bor x => encBit 6 x []
  | .bnor x => encBit 7 x []
  | .bclrG x => encBit 8 x []
  | .bsetG x => encBit 9 x []
  | .bnotG x => encBit 10 x []
  | .btstG x => encBit 11 x []
  | .bxor x => encBit 12 x []
  | .bnxor x => encBit 13 x []
  | .ldcImm c v => two 0xEB c.code 0 (wordBytes v)
  | .ldintb t => [0xEB, 0x20, (t.extractLsb' 16 4).zeroExtend 8, 0x00, 0xEB, 0x10, t.extractLsb' 0 8, t.extractLsb' 8 8]
  | .shlLR1H p => two 0xEB p.code 1 []
  | .shaLR1H p => two 0xEB (2 + p.code) 1 []
  | .pushc c => two 0xEB c.code 2 []
  | .popc c => two 0xEB c.code 3 []
  | .fset f => two 0xEB f.code 4 []
  | .fclr f => two 0xEB f.code 5 []
  | .mova m d => two 0xEB d.code m.code m.bytes
  | .shlLImm p k => two 0xEB (8 + p.code) k.code []
  | .shaLImm p k => two 0xEB (10 + p.code) k.code []
  | .int n => two 0xEB (12 + n.toNat / 16) (n.toNat % 16) []

/-- The length of an instruction in bytes (R100, R107). -/
def Instr.length (i : Instr) : Nat := (encode i).length

/-- The number of bytes a fetch supplies: no single instruction is longer than 7, and LDINTB's two are 8 (R5, R100). -/
def fetchLength : Nat := 8

/-- An instruction word of the opcode table as bytes at increasing addresses: a one-byte op-code is bits 7:0, a two-byte op-code has its
first byte in bits 15:8, as the table's match and mask number it (INDEX.md, log 1); the bytes after it are 0. -/
def tableBytes (nbits w : Nat) : List Byte :=
  if nbits ≤ 8 then byte w :: List.replicate 7 0 else byte (w / 256) :: byte w :: List.replicate 6 0

/-- The instruction that the decoder reads from a word of the opcode table. -/
def decodeTableWord (nbits w : Nat) : Option Instr :=
  match decode (tableBytes nbits w) with
  | .ok (i, _) => some i
  | .error _ => none

end Sys2Proof
end

