-- ==== Sys2Proof/Machine/State.lean ====
section
/-! DEFINITION. The state of the machine as plain data (10_state.md), the reasons a step can stop, and the state after reset. -/

namespace Sys2Proof.Machine

/-- One register bank (R26). -/
structure Bank where
  r0 : Word
  r1 : Word
  r2 : Word
  r3 : Word
  a0 : Word
  a1 : Word
  fb : Word
deriving DecidableEq, Repr

/-- The eleven implemented bits of FLG (R32). Bits 15 and 11:8 are no state (R42, D9). -/
structure Flg where
  c : Bool
  d : Bool
  z : Bool
  s : Bool
  b : Bool
  o : Bool
  i : Bool
  u : Bool
  ipl : BitVec 3
deriving DecidableEq, Repr

/-- The requests of the world outside, as latched inputs (R605 to R610, D24, D25). -/
structure Requests where
  nmi : Bool
  dbc : Bool
  wdt : Bool
  /-- The interrupt request bits `ir[0]` to `ir[31]` (R46, R610). -/
  ir : BitVec 32
  /-- The interrupt priority levels `ilvl[0]` to `ilvl[31]` (R610, R611). -/
  ilvl : Vector (BitVec 3) 32
  /-- The addresses for which `addr_match` holds (R609, D24, log 18). -/
  addrMatch : List Addr
deriving DecidableEq, Repr

/-- A piece of external memory: its first and its last address, and whether it takes writes (R61, D3). -/
structure Extent where
  first : Addr
  last : Addr
  writable : Bool
deriving DecidableEq, Repr

/-- The extents that R6 and R61 leave to each model of the series: parameters of the platform, read by every access and written by no step (R61,
D3, log 4, log 8). -/
structure Layout where
  /-- `SFR_TOP`, the last populated address of the SFR area, which lies in 00000h to 003FFh (R61). -/
  sfrTop : BitVec 10
  /-- `RAM_END`, the last address of the internal RAM that starts at 00400h. -/
  ramEnd : Addr
  /-- `ROM_START`, the first address of the internal ROM that ends at FFFFFh. -/
  romStart : Addr
  /-- The external memory, where the model of the series has any (R61). -/
  external : List Extent
deriving DecidableEq, Repr

/-- The whole machine. -/
structure State where
  /-- Bank 0 and bank 1; the B flag selects one (R26). -/
  bank0 : Bank
  bank1 : Bank
  /-- The address of the next instruction (R28); during an instruction, its own start address. -/
  pc : Addr
  intb : Addr
  usp : Word
  isp : Word
  sb : Word
  flg : Flg
  /-- Memory: address and byte, in the canonical form that Memory.wf of Sys2Proof/Machine/Ops.lean states (R60). -/
  mem : List Host.Cell
  /-- The CPU is halted by WAIT (R48). -/
  waiting : Bool
  /-- `inhibit_irq_once`: no hardware interrupt at the coming boundary (R49, R673). -/
  inhibitOnce : Bool
  /-- The I value that acceptance uses at the coming boundary (R670, log 14). -/
  iAccept : Bool
  /-- A hardware request was taken at this boundary; the others compete again after the first instruction of its handler (R614,
  log 15). -/
  boundaryTaken : Bool
  /-- A single-step request is pending (R608, log 16). -/
  stepReq : Bool
  /-- The reset input, latched (R660, log 11). -/
  resetReq : Bool
  req : Requests
  /-- The platform's parameters `SFR_TOP`, `RAM_END`, `ROM_START` and the external memory (R6, R61, log 8). -/
  layout : Layout
  /-- The model's own: the accesses that the platform has seen, newest first (R71, R72, D3, log 4). -/
  platformLog : List PlatformAccess
  /-- The model's own: how many free values have been drawn (R9, log 12). -/
  freeCount : Nat
deriving DecidableEq, Repr

/-- The machine has no faults: the manual describes no synchronous fault of any kind (R602, R625, R72). -/
inductive Fault
deriving DecidableEq, Repr

/-- Why a step has no successor. -/
inductive Refusal where
  /-- Raised by an arm of exec that has no meaning yet. Safe. No arm does. -/
  | notModelled (mnemonic : String)
  /-- Raised by the step when the bytes at PC are no assigned instruction code (R142, D1). Safe: the spec gives no successor. -/
  | undecodable (why : Reject)
  /-- Raised by a meaning for a term that no code stands for (R142, D1). Safe: the decoder never answers such a term. -/
  | notSelectable
deriving DecidableEq, Repr

/-- What one step or one instruction answers. -/
abbrev Result := Host.Outcome State Fault Refusal

def Bank.zero : Bank := { r0 := 0, r1 := 0, r2 := 0, r3 := 0, a0 := 0, a1 := 0, fb := 0 }

/-- FLG = 0000h (R51, R52). -/
def Flg.zero : Flg := { c := false, d := false, z := false, s := false, b := false, o := false, i := false, u := false, ipl := 0 }

/-- No request, every level 0, no address match (D11, D24, log 10). -/
def Requests.idle : Requests :=
  { nmi := false, dbc := false, wdt := false, ir := 0, ilvl := Vector.replicate 32 0, addrMatch := [] }

/-- The layout of State.reset: the sample value of SFR_TOP, and every other address writable memory, D3's plain byte memory (log 8). -/
def Layout.plain : Layout := { sfrTop := 0x3FF, ramEnd := 0xFFFFF, romStart := 0xFFE00, external := [] }

/-- The machine right after reset, with a memory that lists nothing (R51, R52, R660). PC is the reset vector's value in that memory
(R661, log 3). Bank 1 is 0000h by D10 (log 9). -/
def State.reset : State :=
  { bank0 := Bank.zero, bank1 := Bank.zero, pc := 0, intb := 0, usp := 0, isp := 0, sb := 0, flg := Flg.zero, mem := [],
    waiting := false, inhibitOnce := true, iAccept := false, boundaryTaken := false, stepReq := false, resetReq := false,
    req := Requests.idle, layout := Layout.plain, platformLog := [], freeCount := 0 }

end Sys2Proof.Machine
end

