-- ==== Sys2Proof/Machine/Ops.lean ====
section
/-! DEFINITION. The named operations over registers and memory that every meaning goes through: the banked registers, the stack pointer,
the byte memory and its canonical form, the SFR area, pushes and pops, free values, the interrupt sequence and the return from it. -/

namespace Sys2Proof.Machine

/-! ### Registers (10_state.md) -/

/-- The selected register bank (R26). -/
def State.bank (s : State) : Bank := if s.flg.b then s.bank1 else s.bank0

/-- Replaces the selected register bank (R26). -/
def State.setBank (s : State) (k : Bank) : State :=
  if s.flg.b then { s with bank1 := k } else { s with bank0 := k }

/-- The stack pointer the U flag selects (R31). -/
def State.sp (s : State) : Word := if s.flg.u then s.usp else s.isp

/-- Writes the stack pointer the U flag selects (R31). -/
def State.setSp (s : State) (v : Word) : State :=
  if s.flg.u then { s with usp := v } else { s with isp := v }

def State.setFlg (s : State) (f : Flg) : State := { s with flg := f }

/-- A word register R0 to R3 (R21). -/
def State.word (s : State) : DReg → Word
  | .r0lR0 => s.bank.r0
  | .r0hR1 => s.bank.r1
  | .r1lR2 => s.bank.r2
  | .r1hR3 => s.bank.r3

def State.setWord (s : State) (r : DReg) (v : Word) : State :=
  match r with
  | .r0lR0 => s.setBank { s.bank with r0 := v }
  | .r0hR1 => s.setBank { s.bank with r1 := v }
  | .r1lR2 => s.setBank { s.bank with r2 := v }
  | .r1hR3 => s.setBank { s.bank with r3 := v }

/-- A byte register R0L, R0H, R1L or R1H (R21). -/
def State.byte (s : State) : DReg → Byte
  | .r0lR0 => loByte s.bank.r0
  | .r0hR1 => hiByte s.bank.r0
  | .r1lR2 => loByte s.bank.r1
  | .r1hR3 => hiByte s.bank.r1

/-- Writing a half leaves the other half unchanged (R21, R111). -/
def State.setByte (s : State) (r : DReg) (v : Byte) : State :=
  match r with
  | .r0lR0 => s.setBank { s.bank with r0 := hiByte s.bank.r0 ++ v }
  | .r0hR1 => s.setBank { s.bank with r0 := v ++ loByte s.bank.r0 }
  | .r1lR2 => s.setBank { s.bank with r1 := hiByte s.bank.r1 ++ v }
  | .r1hR3 => s.setBank { s.bank with r1 := v ++ loByte s.bank.r1 }

/-- A0 or A1 (R23). -/
def State.areg (s : State) : AReg → Word
  | .a0 => s.bank.a0
  | .a1 => s.bank.a1

def State.setAreg (s : State) (a : AReg) (v : Word) : State :=
  match a with
  | .a0 => s.setBank { s.bank with a0 := v }
  | .a1 => s.setBank { s.bank with a1 := v }

/-- FB of the selected bank (R24). -/
def State.fb (s : State) : Word := s.bank.fb

def State.setFb (s : State) (v : Word) : State := s.setBank { s.bank with fb := v }

/-- R2R0 or R3R1, the first named register high (R22). -/
def State.pair (s : State) : Pair → Long
  | .r2r0 => s.bank.r2 ++ s.bank.r0
  | .r3r1 => s.bank.r3 ++ s.bank.r1

def State.setPair (s : State) (p : Pair) (v : Long) : State :=
  match p with
  | .r2r0 => s.setBank { s.bank with r0 := v.extractLsb' 0 16, r2 := v.extractLsb' 16 16 }
  | .r3r1 => s.setBank { s.bank with r1 := v.extractLsb' 0 16, r3 := v.extractLsb' 16 16 }

/-- R2R0, R3R1 or A1A0 (R22, R23, R122). -/
def State.apair (s : State) : APair → Long
  | .r2r0 => s.pair .r2r0
  | .r3r1 => s.pair .r3r1
  | .a1a0 => s.bank.a1 ++ s.bank.a0

def State.setApair (s : State) (p : APair) (v : Long) : State :=
  match p with
  | .r2r0 => s.setPair .r2r0 v
  | .r3r1 => s.setPair .r3r1 v
  | .a1a0 => s.setBank { s.bank with a0 := v.extractLsb' 0 16, a1 := v.extractLsb' 16 16 }

/-! ### The 16-bit image of FLG (R32) -/

/-- FLGL: U I O B S Z D C from bit 7 to bit 0 (R10, R32). -/
def Flg.low (f : Flg) : Byte := byteOfBits f.u f.i f.o f.b f.s f.z f.d f.c

/-- FLG as a word; the reserved bits 15 and 11:8 read 0 (R42, D9). -/
def Flg.toWord (f : Flg) : Word := 0#1 ++ f.ipl ++ 0#4 ++ f.low

/-- FLG from a word; the reserved bits are dropped (R42, D9). -/
def Flg.ofWord (w : Word) : Flg :=
  { c := w.getLsbD 0, d := w.getLsbD 1, z := w.getLsbD 2, s := w.getLsbD 3,
    b := w.getLsbD 4, o := w.getLsbD 5, i := w.getLsbD 6, u := w.getLsbD 7, ipl := w.extractLsb' 12 3 }

/-! ### Byte memory: address and byte, addresses strictly rising, no entry equal to what an unlisted address reads as -/

/-- What an address that nothing lists reads as (log 2: the spec gives no contents, D12). -/
def Memory.unlisted : Byte := 0x00

/-- The byte at an address. -/
def Memory.get : List Host.Cell → Nat → Byte
  | [], _ => Memory.unlisted
  | (k, v) :: t, a => if a = k then v else Memory.get t a

/-- Stores a byte and keeps the canonical form: a byte equal to `Memory.unlisted` is not listed. -/
def Memory.set : List Host.Cell → Nat → Byte → List Host.Cell
  | [], a, v => if v = Memory.unlisted then [] else [(a, v)]
  | (k, w) :: t, a, v =>
    if a < k then (if v = Memory.unlisted then (k, w) :: t else (a, v) :: (k, w) :: t)
    else if a = k then (if v = Memory.unlisted then t else (a, v) :: t)
    else (k, w) :: Memory.set t a v

/-- Canonical from address `n` on: addresses from `n` up, strictly rising, below 2^20, no byte equal to `Memory.unlisted`. -/
def Memory.canonFrom : Nat → List Host.Cell → Bool
  | _, [] => true
  | n, (k, v) :: t => decide (n ≤ k) && decide (k < 0x100000) && decide (v ≠ Memory.unlisted) && Memory.canonFrom (k + 1) t

/-- The canonical form of memory. -/
def Memory.wf (m : List Host.Cell) : Bool := Memory.canonFrom 0 m

/-- The byte of the memory image at an address, without an access: what code fetch reads (D17) and what frames speak of. -/
def State.peek (s : State) (a : Addr) : Byte := Memory.get s.mem a.toNat

/-! ### Requests (60_exceptions.md) -/

/-- `ilvl[n]` (R610). -/
def State.level (s : State) (n : Nat) : BitVec 3 := s.req.ilvl.toList.getD n 0

/-- `acceptable(n)` of R612, with the I value of R670. -/
def State.acceptable (s : State) (n : Nat) : Bool :=
  s.iAccept && s.req.ir.getLsbD n && decide (s.flg.ipl.toNat < (s.level n).toNat)

/-- Source `n` goes before source `m`: the higher level, then the hardware order (R614, D26, log 17). -/
def State.outranks (s : State) (n m : Nat) : Bool :=
  decide ((s.level m).toNat < (s.level n).toNat) ||
  (s.level n == s.level m && (decide (Config.periphRank n < Config.periphRank m) ||
    (Config.periphRank n == Config.periphRank m && decide (n < m))))

def State.better (s : State) (best : Option Nat) (n : Nat) : Option Nat :=
  if s.acceptable n then
    match best with
    | none => some n
    | some m => if s.outranks n m then some n else some m
  else best

/-- The peripheral request of highest priority among the acceptable ones (R612, R614). -/
def State.maskableWinner (s : State) : Option Nat := (List.range 32).foldl s.better none

/-- `ir[n]` cleared (R46, R623). -/
def State.clearIr (s : State) (n : Nat) : State :=
  { s with req := { s.req with ir := s.req.ir &&& ~~~(BitVec.twoPow 32 n) } }

/-! ### Data accesses -/

/-- The populated SFR area, from 00000h to `SFR_TOP` (R6, R61, R71). -/
def Layout.isSfr (l : Layout) (a : Addr) : Bool := decide (a.toNat ≤ l.sfrTop.toNat)

/-- The address lies in a piece of external memory. -/
def Extent.contains (e : Extent) (a : Addr) : Bool := decide (e.first.toNat ≤ a.toNat) && decide (a.toNat ≤ e.last.toNat)

/-- The writable predicate of D3: the internal RAM, from 00400h to `RAM_END`, and the external memory that takes writes (R6, R61). -/
def Layout.isWritable (l : Layout) (a : Addr) : Bool :=
  decide (0x400 ≤ a.toNat) && (decide (a.toNat ≤ l.ramEnd.toNat) || l.external.any fun e => e.writable && e.contains a)

/-- Plain memory: the internal RAM, the internal ROM from `ROM_START` on, the fixed vector area FFE00h to FFFFFh, and the external memory (R6,
R61, R71). Everything else outside the SFR area is unpopulated: the platform answers there (R72, D3, log 8). -/
def Layout.inImage (l : Layout) (a : Addr) : Bool :=
  decide (0x400 ≤ a.toNat) &&
  (decide (a.toNat ≤ l.ramEnd.toNat) || decide (l.romStart.toNat ≤ a.toNat) || decide (0xFFE00 ≤ a.toNat) ||
    l.external.any fun e => e.contains a)

/-- What an access that the platform sees leaves behind: it is logged, and the device may clear request bits and change levels and match
addresses (R46, R71, R72, D3, log 4, log 5). -/
def State.deviceAccess (s : State) (x : PlatformAccess) : State :=
  { s with
    platformLog := x :: s.platformLog
    req := { s.req with
      ir := s.req.ir &&& Config.platformIrKeep (x :: s.platformLog)
      ilvl := Config.platformLevels (x :: s.platformLog) s.req.ilvl
      addrMatch := Config.platformAddrMatch (x :: s.platformLog) s.req.addrMatch } }

/-- A program read of 00000h clears the request bit of the enabled interrupt of highest priority (R71, R623). DESIGN CHOICE (log 6): enabled is
judged with `iAccept` and the IPL as they stand at the moment of the read. -/
def State.cancelWinner (s : State) : State :=
  match s.maskableWinner with
  | some n => s.clearIr n
  | none => s

/-- The state after a data read of a byte: only a read of the SFR area changes anything, every other address is idempotent (R71, D3). -/
def State.afterRead (s : State) (a : Addr) : State :=
  if s.layout.isSfr a then (if a = 0 then s.cancelWinner else s).deviceAccess (.read a) else s

/-- A data read of a byte: its value and the state after it (R60, R71, R72). -/
def readByte (s : State) (a : Addr) : Byte × State :=
  (if s.layout.inImage a then s.peek a else Config.platformRead s.platformLog a, s.afterRead a)

/-- A data write of a byte: writable memory takes it, so that the next load answers it (R80), and every other write, to ROM too, is the
platform's and leaves the memory image as it is (R60, R71, R72, D3, log 8). No access faults (R72). -/
def writeByte (s : State) (a : Addr) (v : Byte) : State :=
  if s.layout.isWritable a then { s with mem := Memory.set s.mem a.toNat v } else s.deviceAccess (.write a v)

/-- `MemRead(a, 2)`: low byte first, the second byte at `a + 1` in 20 bits (R63, R67, D18). -/
def read16 (s : State) (a : Addr) : Word × State :=
  let lo := readByte s a
  let hi := readByte lo.2 (a + 1)
  (hi.1 ++ lo.1, hi.2)

/-- `MemRead(a, 3)` (R63). -/
def read24 (s : State) (a : Addr) : BitVec 24 × State :=
  let lo := read16 s a
  let hi := readByte lo.2 (a + 2)
  (hi.1 ++ lo.1, hi.2)

/-- `MemRead(a, 4)` (R63). -/
def read32 (s : State) (a : Addr) : Long × State :=
  let lo := read16 s a
  let hi := read16 lo.2 (a + 2)
  (hi.1 ++ lo.1, hi.2)

/-- `MemWrite(a, 2, v)` (R63). -/
def write16 (s : State) (a : Addr) (v : Word) : State :=
  writeByte (writeByte s a (loByte v)) (a + 1) (hiByte v)

/-- `MemWrite(a, 3, v)` (R63). -/
def write24 (s : State) (a : Addr) (v : BitVec 24) : State :=
  writeByte (write16 s a (v.extractLsb' 0 16)) (a + 2) (v.extractLsb' 16 8)

/-- `MemWrite(a, 4, v)` (R63). -/
def write32 (s : State) (a : Addr) (v : Long) : State :=
  write16 (write16 s a (v.extractLsb' 0 16)) (a + 2) (v.extractLsb' 16 16)

/-! ### The stack (R70) -/

/-- `zext_20` of a 16-bit address (R9). -/
def zext20 (w : Word) : Addr := w.zeroExtend 20

/-- `SP ← SP − 1; M(SP) ← v`. -/
def push8 (s : State) (v : Byte) : State :=
  writeByte (s.setSp (s.sp - 1)) (zext20 (s.sp - 1)) v

/-- `SP ← SP − 2; M(SP) ← v`. -/
def push16 (s : State) (v : Word) : State :=
  write16 (s.setSp (s.sp - 2)) (zext20 (s.sp - 2)) v

/-- `M(SP); SP ← SP + 1`. -/
def pop8 (s : State) : Byte × State :=
  let x := readByte s (zext20 s.sp)
  (x.1, x.2.setSp (s.sp + 1))

/-- `M(SP); SP ← SP + 2`. -/
def pop16 (s : State) : Word × State :=
  let x := read16 s (zext20 s.sp)
  (x.1, x.2.setSp (s.sp + 2))

/-- `pushRet` (R460): the byte holds bits 19:16, its high nibble 0 (D13). -/
def pushRet (s : State) (a : Addr) : State :=
  push16 (push8 s ((a.extractLsb' 16 4).zeroExtend 8)) (a.extractLsb' 0 16)

/-- `popRet` (R460): bits 7:4 of the third byte are ignored (D13). -/
def popRet (s : State) : Addr × State :=
  let lo := pop16 s
  let hi := pop8 lo.2
  (hi.1.extractLsb' 0 4 ++ lo.1, hi.2)

/-! ### Values the manual leaves free (R9, log 12) -/

/-- The next free value, and the state that has drawn it. -/
def draw (s : State) : Long × State :=
  (Config.freeValue s.freeCount, { s with freeCount := s.freeCount + 1 })

/-! ### How an instruction ends -/

/-- `next`: the address after the instruction that starts at PC (R29, D7). -/
def State.nextPc (s : State) (i : Instr) : Addr := s.pc + BitVec.ofNat 20 i.length

/-- An instruction that transfers control to `t`. -/
def retireAt (i : Instr) (t : Addr) (s : State) : Result :=
  if i.selectable then .next { s with pc := t } else .refused .notSelectable

/-- An instruction that goes on to the next one (R29). -/
def retire (i : Instr) (s : State) : Result := retireAt i (s.nextPc i) s

/-! ### Taking an interrupt, and the return from it -/

/-- The word of the frame that holds FLGH, PC bits 19:16 and FLGL (R620, R621, log 27). -/
def frameHigh (f : Flg) (ret : Addr) : Word := 0#1 ++ f.ipl ++ ret.extractLsb' 16 4 ++ f.low

/-- The interrupt sequence (R620): FLG into the temporary register, I, D and for `clearU` U to 0, the two frame words on the stack the new
U selects, the new IPL if the interrupt has one, PC from the vector. Acceptance then uses I = 0 (R670). DESIGN CHOICE (log 6): where the vector
read covers 00000h, the request it cancels is judged with the I value from before the sequence, and with the new IPL. -/
def interruptSequence (s : State) (vec ret : Addr) (clearU : Bool) (lvl : Option (BitVec 3)) : State :=
  let s1 := s.setFlg { s.flg with i := false, d := false, u := !clearU && s.flg.u }
  let s2 := push16 s1 (frameHigh s.flg ret)
  let s3 := push16 s2 (ret.extractLsb' 0 16)
  let s4 := s3.setFlg { s3.flg with ipl := lvl.getD s3.flg.ipl }
  let v := read32 s4 vec
  { v.2 with pc := v.1.extractLsb' 0 20, iAccept := false }

/-- The address of the vector of software interrupt number `n` (R76, D7). -/
def variableVector (s : State) (n : Nat) : Addr := s.intb + BitVec.ofNat 20 (4 * n)

/-- The return from an interrupt, REIT (R560): both pops on the stack the entry U selects, FLG last; I counts at once (R670). DESIGN CHOICE
(log 6): where a pop reads 00000h, the request it cancels is judged with I and IPL from before the REIT. -/
def interruptReturn (s : State) : State :=
  let lo := pop16 s
  let w := pop16 lo.2
  let f := Flg.ofWord w.1
  { w.2 with pc := w.1.extractLsb' 8 4 ++ lo.1, flg := f, iAccept := f.i }

/-- The hardware interrupts, in the order of priority of R614. -/
inductive Hardware where
  | nmi
  | dbc
  | watchdog
  | peripheral (n : Nat)
  | singleStep
  | addressMatch
deriving DecidableEq, Repr

/-- The acceptable hardware request of highest priority (R608, R609, R612, R614). The address match needs an instruction about to
start, so none while the CPU is halted (R609, log 18). DESIGN CHOICE (log 18): a suspended SMOVB, SMOVF, SSTR or RMPA counts as about to start
between its iterations, so a listed PC matches there too, also after a first iteration that an inhibit let through; and a match whose
instruction runs in an inhibited slot, or as the first of a handler, is dropped, since the match is no latch. -/
def State.winner (s : State) : Option Hardware :=
  if s.req.nmi then some .nmi
  else if s.req.dbc then some .dbc
  else if s.req.wdt then some .watchdog
  else
    match s.maskableWinner with
    | some n => some (.peripheral n)
    | none =>
      if s.stepReq then some .singleStep
      else if !s.waiting && s.req.addrMatch.contains s.pc then some .addressMatch
      else none

/-- Takes a hardware interrupt: its latch is cleared (D25), a halt ends (R580), and the sequence runs with the vector of R75 or R76, the
return address PC, U cleared, and the level of R622. -/
def State.accept (s : State) (h : Hardware) : State :=
  let t := { s with waiting := false, boundaryTaken := true }
  match h with
  | .nmi => interruptSequence { t with req := { t.req with nmi := false } } 0xFFFF8 s.pc true (some 7)
  | .dbc => interruptSequence { t with req := { t.req with dbc := false } } 0xFFFF4 s.pc true none
  | .watchdog => interruptSequence { t with req := { t.req with wdt := false } } 0xFFFF0 s.pc true (some 7)
  | .peripheral n => interruptSequence (t.clearIr n) (variableVector s n) s.pc true (some (s.level n))
  | .singleStep => interruptSequence { t with stepReq := false } 0xFFFEC s.pc true none
  | .addressMatch => interruptSequence t 0xFFFE8 s.pc true none

/-- Reset (R660, R661): every register to its reset value, PC from the reset vector; memory, the request inputs, the layout and the
device are not touched (D11, D12, log 10). -/
def State.doReset (s : State) : State :=
  { State.reset with
    pc := (read32 s 0xFFFFC).1.extractLsb' 0 20
    mem := s.mem
    req := s.req
    layout := s.layout
    platformLog := s.platformLog
    freeCount := s.freeCount }

/-! ### The frame of a step -/

/-- What starting an instruction does to the state of acceptance: the one-shot inhibit is used up (R615), the handler's first instruction
reopens the boundary (R614), and I as it stands now is what the coming boundary uses (R670). DESIGN CHOICE (log 15): of SMOVB, SMOVF, SSTR and
RMPA the first iteration is what the inhibited slot and the handler's first instruction stand for, so a pending request is taken after it. -/
def State.beginInstr (s : State) : State :=
  { s with inhibitOnce := false, boundaryTaken := false, iAccept := s.flg.i }

/-- The four repeating instructions, of which one step runs one iteration (R500, R503). -/
def Instr.repeats : Instr → Bool
  | .smovf _ | .smovb _ | .sstr _ | .rmpa _ => true
  | _ => false

/-- Ends a step that ran `i` from `s`: an instruction that began with D = 1 and is complete raises the single-step request (R608, D23). -/
def State.endInstr (s' : State) (i : Instr) (s : State) : State :=
  { s' with stepReq := s'.stepReq || (s.flg.d && !(Instr.repeats i && s'.pc == s.pc)) }

/-- The code byte at an address: of the memory image as it is now (D17, R85), and what the platform answers in the SFR area and at an
unpopulated address (R71, R72, D3, log 7). -/
def State.codeByte (s : State) (a : Addr) : Byte :=
  if s.layout.inImage a then s.peek a else Config.platformRead s.platformLog a

/-- The bytes a fetch sees: `n` of them from `a` on (D17, R85, D7, log 7). -/
def State.fetch (s : State) (a : Addr) : Nat → List Byte
  | 0 => []
  | n + 1 => s.codeByte a :: s.fetch (a + 1) n

/-- Puts bytes into the memory image, from `a` on. -/
def State.load (s : State) (a : Addr) : List Byte → State
  | [] => s
  | x :: t => State.load { s with mem := Memory.set s.mem a.toNat x } (a + 1) t

end Sys2Proof.Machine
end

