-- ==== Sys2Proof/Machine/Operands.lean ====
section
/-! DEFINITION. The operand forms: effective addresses (R112 to R125), reading a source and writing a destination (R128), bit operands, short
operands, control registers and jump operands. -/

namespace Sys2Proof.Machine

/-! ### Effective addresses -/

/-- The 16-bit effective address of a memory operand, with its 16-bit wrap (R112 to R116). -/
def State.ea16 (s : State) : Mem → Word
  | .ind a => s.areg a
  | .dsp8A a d => s.areg a + d.zeroExtend 16
  | .dsp8SB d => s.sb + d.zeroExtend 16
  | .dsp8FB d => s.fb + d.signExtend 16
  | .dsp16A a d => s.areg a + d
  | .dsp16SB d => s.sb + d
  | .abs16 d => d

/-- `EA(op)` of a memory operand (R128). -/
def State.ea (s : State) (m : Mem) : Addr := zext20 (s.ea16 m)

/-- `dsp:8[SP]` (R117). -/
def State.eaSp (s : State) (d : Byte) : Addr := zext20 (s.sp + d.signExtend 16)

/-- `dsp:20[An]`, with its 20-bit wrap (R120). -/
def State.eaDsp20 (s : State) (a : AReg) (d : Addr) : Addr := zext20 (s.areg a) + d

/-- `[A1A0]` (R121). -/
def State.eaA1A0 (s : State) : Addr := (s.apair .a1a0).extractLsb' 0 20

/-- The memory operand of JMPI and JSRI (R120, R474). -/
def State.eaInd (s : State) : IndMem → Addr
  | .mem m => s.ea m
  | .dsp20A a d => s.eaDsp20 a d

/-! ### Sources -/

/-- `Src` of a `.B` instruction; of A0 and A1 the low 8 bits (R118, R128). -/
def readSrc8 (s : State) : Operand → Byte × State
  | .dreg r => (s.byte r, s)
  | .areg a => (loByte (s.areg a), s)
  | .mem m => readByte s (s.ea m)

/-- `Src` of a `.W` instruction (R128). -/
def readSrc16 (s : State) : Operand → Word × State
  | .dreg r => (s.word r, s)
  | .areg a => (s.areg a, s)
  | .mem m => read16 s (s.ea m)

/-! ### Destinations -/

/-- `Dest ← v` with W = 8: a byte register or memory. A `.B` instruction whose destination is A0 or A1 works in 16 bits (R118); the case is
here to be total, and zero-extends. -/
def writeDest8 (s : State) (dst : Operand) (v : Byte) : State :=
  match dst with
  | .dreg r => s.setByte r v
  | .areg a => s.setAreg a (v.zeroExtend 16)
  | .mem m => writeByte s (s.ea m) v

/-- `Dest ← v` with W = 16 (R128). -/
def writeDest16 (s : State) (dst : Operand) (v : Word) : State :=
  match dst with
  | .dreg r => s.setWord r v
  | .areg a => s.setAreg a v
  | .mem m => write16 s (s.ea m) v

/-- An operation on FLG, the destination's old value and the source, all of one width: the new value and the new FLG. -/
abbrev Binary := (n : Nat) → Flg → BitVec n → BitVec n → BitVec n × Flg

/-- An operation that only sets FLG. -/
abbrev Compare := (n : Nat) → Flg → BitVec n → BitVec n → Flg

/-- `Dest ← op(Dest, S_)` of a `.B` instruction with source value `x`: in 16 bits on a zero-extended source if the destination is A0 or
A1 (R118, R128). -/
def update8 (op : Binary) (x : Byte) (dst : Operand) (s : State) : State :=
  match dst with
  | .dreg r =>
    let v := op 8 s.flg (s.byte r) x
    (s.setByte r v.1).setFlg v.2
  | .areg a =>
    let v := op 16 s.flg (s.areg a) (x.zeroExtend 16)
    (s.setAreg a v.1).setFlg v.2
  | .mem m =>
    let d := readByte s (s.ea m)
    let v := op 8 s.flg d.1 x
    (writeByte d.2 (s.ea m) v.1).setFlg v.2

/-- `Dest ← op(Dest, S_)` of a `.W` instruction (R128). -/
def update16 (op : Binary) (x : Word) (dst : Operand) (s : State) : State :=
  match dst with
  | .dreg r =>
    let v := op 16 s.flg (s.word r) x
    (s.setWord r v.1).setFlg v.2
  | .areg a =>
    let v := op 16 s.flg (s.areg a) x
    (s.setAreg a v.1).setFlg v.2
  | .mem m =>
    let d := read16 s (s.ea m)
    let v := op 16 s.flg d.1 x
    (write16 d.2 (s.ea m) v.1).setFlg v.2

/-- As `update8`, but only FLG changes and the destination is not written. -/
def compare8 (op : Compare) (x : Byte) (dst : Operand) (s : State) : State :=
  match dst with
  | .dreg r => s.setFlg (op 8 s.flg (s.byte r) x)
  | .areg a => s.setFlg (op 16 s.flg (s.areg a) (x.zeroExtend 16))
  | .mem m =>
    let d := readByte s (s.ea m)
    d.2.setFlg (op 8 s.flg d.1 x)

/-- As `update16`, but only FLG changes. -/
def compare16 (op : Compare) (x : Word) (dst : Operand) (s : State) : State :=
  match dst with
  | .dreg r => s.setFlg (op 16 s.flg (s.word r) x)
  | .areg a => s.setFlg (op 16 s.flg (s.areg a) x)
  | .mem m =>
    let d := read16 s (s.ea m)
    d.2.setFlg (op 16 s.flg d.1 x)

/-- Two operands: the source is read, then the destination, then the destination is written (R80, D16). -/
def updateG (op : Binary) (sz : Size) (src dst : Operand) (s : State) : State :=
  match sz with
  | .b => update8 op (readSrc8 s src).1 dst (readSrc8 s src).2
  | .w => update16 op (readSrc16 s src).1 dst (readSrc16 s src).2

/-- An immediate source (R110). -/
def updateImm (op : Binary) (imm : Imm) (dst : Operand) (s : State) : State :=
  match imm with
  | .b v => update8 op v dst s
  | .w v => update16 op v dst s

/-- A quick immediate: sign-extended to the operation size (R108 a), then widened for A0 and A1 (R118). -/
def updateQ (op : Binary) (sz : Size) (imm : BitVec 4) (dst : Operand) (s : State) : State :=
  match sz with
  | .b => update8 op (imm.signExtend 8) dst s
  | .w => update16 op (imm.signExtend 16) dst s

/-- One operand; the operation does not look at its source. -/
def updateOne (op : Binary) (sz : Size) (dst : Operand) (s : State) : State :=
  match sz with
  | .b => update8 op 0 dst s
  | .w => update16 op 0 dst s

def compareG (op : Compare) (sz : Size) (src dst : Operand) (s : State) : State :=
  match sz with
  | .b => compare8 op (readSrc8 s src).1 dst (readSrc8 s src).2
  | .w => compare16 op (readSrc16 s src).1 dst (readSrc16 s src).2

def compareImm (op : Compare) (imm : Imm) (dst : Operand) (s : State) : State :=
  match imm with
  | .b v => compare8 op v dst s
  | .w v => compare16 op v dst s

def compareQ (op : Compare) (sz : Size) (imm : BitVec 4) (dst : Operand) (s : State) : State :=
  match sz with
  | .b => compare8 op (imm.signExtend 8) dst s
  | .w => compare16 op (imm.signExtend 16) dst s

/-! ### Short operands (R105) -/

def Half.dreg : Half → DReg
  | .r0l => .r0lR0
  | .r0h => .r0hR1

/-- The half of R0 that is not this one. -/
def Half.other : Half → Half
  | .r0l => .r0h
  | .r0h => .r0l

def ShortMem.operand : ShortMem → Operand
  | .dsp8SB d => .mem (.dsp8SB d)
  | .dsp8FB d => .mem (.dsp8FB d)
  | .abs16 d => .mem (.abs16 d)

def ShortDest.operand : ShortDest → Operand
  | .half h => .dreg (Half.dreg h)
  | .mem m => ShortMem.operand m

/-- The source of `src,R0L/R0H`: SS = 00 is the half that is not the destination (R105 b). -/
def ShortSrc.operand (h : Half) : ShortSrc → Operand
  | .half => .dreg (Half.dreg (Half.other h))
  | .mem m => ShortMem.operand m

/-- The source of `src,A0/A1`: SS = 00 is R0H for A0 and R0L for A1 (R207). -/
def ShortSrc.operandA (a : AReg) : ShortSrc → Operand
  | .half => .dreg (match a with
    | .a0 => .r0hR1
    | .a1 => .r0lR0)
  | .mem m => ShortMem.operand m

/-! ### Bit operands (R125, R260) -/

/-- Where the designated bit lies: in a register, or in one byte of memory. -/
inductive BitPlace where
  | dreg (r : DReg) (bit : BitVec 4)
  | areg (a : AReg) (bit : BitVec 4)
  | mem (a : Addr) (bit : BitVec 3)
deriving DecidableEq, Repr

/-- The bit that a bit operand designates (the table of R125). -/
def State.bitPlace (s : State) : BitOperand → BitPlace
  | .dreg r k => .dreg r k
  | .areg a k => .areg a k
  | .ind a => .mem (zext20 (s.areg a >>> 3)) ((s.areg a).extractLsb' 0 3)
  | .base8A a b => .mem (zext20 (b.zeroExtend 16 + s.areg a >>> 3)) ((s.areg a).extractLsb' 0 3)
  | .base8SB c => .mem (zext20 (s.sb + (c >>> 3).zeroExtend 16)) (c.extractLsb' 0 3)
  | .base8FB c => .mem (zext20 (s.fb + (c.sshiftRight 3).signExtend 16)) (c.extractLsb' 0 3)
  | .base16A a b => .mem (zext20 (b + s.areg a >>> 3)) ((s.areg a).extractLsb' 0 3)
  | .base16SB c => .mem (zext20 (s.sb + c >>> 3)) (c.extractLsb' 0 3)
  | .base16 c => .mem (zext20 (c >>> 3)) (c.extractLsb' 0 3)

/-- `bit,base:11[SB]` of the S formats (R125, R263). -/
def State.bitPlaceS (s : State) (bit : BitVec 3) (d : Byte) : BitPlace := .mem (zext20 (s.sb + d.zeroExtend 16)) bit

/-- One bit of a bit vector replaced. -/
def putBit {n : Nat} (x : BitVec n) (k : Nat) (v : Bool) : BitVec n :=
  if v then x ||| BitVec.twoPow n k else x &&& ~~~(BitVec.twoPow n k)

/-- `bitval(op)`: memory is read as one byte (R260, D15). -/
def readBit (s : State) : BitPlace → Bool × State
  | .dreg r k => ((s.word r).getLsbD k.toNat, s)
  | .areg a k => ((s.areg a).getLsbD k.toNat, s)
  | .mem a k => ((readByte s a).1.getLsbD k.toNat, (readByte s a).2)

/-- `bitset(op, f(bitval(op)))`: a register changes in that bit only; a memory byte is read once and written back once with the other seven
bits as read (R260, D15). -/
def updateBit (f : Bool → Bool) (p : BitPlace) (s : State) : State :=
  match p with
  | .dreg r k => s.setWord r (putBit (s.word r) k.toNat (f ((s.word r).getLsbD k.toNat)))
  | .areg a k => s.setAreg a (putBit (s.areg a) k.toNat (f ((s.areg a).getLsbD k.toNat)))
  | .mem a k =>
    let d := readByte s a
    writeByte d.2 a (putBit d.1 k.toNat (f (d.1.getLsbD k.toNat)))

/-! ### Control registers (R530) -/

/-- `creg_read(c)`. -/
def State.creg (s : State) : CReg → Word
  | .intbl => s.intb.extractLsb' 0 16
  | .intbh => (s.intb.extractLsb' 16 4).zeroExtend 16
  | .flg => Flg.toWord s.flg
  | .isp => s.isp
  | .sp => s.sp
  | .sb => s.sb
  | .fb => s.fb

/-- `creg_write(c, v)`: INTBH keeps bits 3:0 (D8), FLG its implemented bits (D9). -/
def State.setCreg (s : State) (c : CReg) (v : Word) : State :=
  match c with
  | .intbl => { s with intb := s.intb.extractLsb' 16 4 ++ v }
  | .intbh => { s with intb := v.extractLsb' 0 4 ++ s.intb.extractLsb' 0 16 }
  | .flg => s.setFlg (Flg.ofWord v)
  | .isp => { s with isp := v }
  | .sp => s.setSp v
  | .sb => { s with sb := v }
  | .fb => s.setFb v

/-- The control register is the stack pointer that U selects: SP, or ISP with U = 0 (R553). -/
def State.isStackPointer (s : State) : CReg → Bool
  | .sp => true
  | .isp => !s.flg.u
  | _ => false

/-! ### Jump operands -/

/-- The 16-bit value JMPI.W and JSRI.W add to the start address (R474). -/
def readIndW (s : State) : IndW → Word × State
  | .dreg r => (s.word r, s)
  | .areg a => (s.areg a, s)
  | .mem m => read16 s (s.eaInd m)

/-- The target of JMPI.A and JSRI.A: bits 19:0 of a register pair or of three bytes of memory (R475, D13). -/
def readIndA (s : State) : IndA → Addr × State
  | .pair p => ((s.apair p).extractLsb' 0 20, s)
  | .mem m => ((read24 s (s.eaInd m)).1.extractLsb' 0 20, (read24 s (s.eaInd m)).2)

/-- The entry of the special page table, and the target it gives (R74, R478). -/
def specialPageTarget (s : State) (n : Byte) : Addr × State :=
  let v := read16 s (0xFFFFE - BitVec.ofNat 20 (2 * n.toNat))
  (0xF#4 ++ v.1, v.2)

/-! ### Register lists (R220, R226, R538, R567) -/

/-- Reads the word at `p` into a register if it is selected, and moves on. -/
def loadIf (sel : Bool) (set : State → Word → State) (x : State × Word) : State × Word :=
  if sel then
    let v := read16 x.1 (zext20 x.2)
    (set v.2 v.1, x.2 + 2)
  else x

/-- Stores a register below `p` if it is selected, and moves on. -/
def storeIf (sel : Bool) (get : State → Word) (x : State × Word) : State × Word :=
  if sel then (write16 x.1 (zext20 (x.2 - 2)) (get x.1), x.2 - 2) else x

/-- The selected registers from the words at `p` upward, R0 first and FB last; also the address after the last one (R220). -/
def loadRegs (l : RegList) (s : State) (p : Word) : State × Word :=
  loadIf l.fb State.setFb <|
  loadIf l.sb (fun s v => { s with sb := v }) <|
  loadIf l.a1 (fun s v => s.setAreg .a1 v) <|
  loadIf l.a0 (fun s v => s.setAreg .a0 v) <|
  loadIf l.r3 (fun s v => s.setWord .r1hR3 v) <|
  loadIf l.r2 (fun s v => s.setWord .r1lR2 v) <|
  loadIf l.r1 (fun s v => s.setWord .r0hR1 v) <|
  loadIf l.r0 (fun s v => s.setWord .r0lR0 v) (s, p)

/-- The selected registers to the words below `p`, FB first and R0 last; also the address of the last one (R226). -/
def storeRegs (l : RegList) (s : State) (p : Word) : State × Word :=
  storeIf l.r0 (fun s => s.word .r0lR0) <|
  storeIf l.r1 (fun s => s.word .r0hR1) <|
  storeIf l.r2 (fun s => s.word .r1lR2) <|
  storeIf l.r3 (fun s => s.word .r1hR3) <|
  storeIf l.a0 (fun s => s.areg .a0) <|
  storeIf l.a1 (fun s => s.areg .a1) <|
  storeIf l.sb (fun s => s.sb) <|
  storeIf l.fb State.fb (s, p)

/-- What LDCTX and STCTX read before they transfer: the register information of the task (in POPM's bit layout, log 28) and the SP
correction value (R538, R567). -/
def readContext (s : State) (n : Word) (t : Addr) : (RegList × Word) × State :=
  let task := readByte s (zext20 n)
  let entry := t + BitVec.ofNat 20 (2 * task.1.toNat)
  let info := readByte task.2 entry
  let corr := readByte info.2 (entry + 1)
  ((popmList info.1, corr.1.zeroExtend 16), corr.2)

end Sys2Proof.Machine
end

