-- ==== Sys2Proof/Machine/Flags.lean ====
section
/-! DEFINITION. The flag computations (R331, R332, R128, R465) and the arithmetic that goes with them: addition, subtraction, the logical
operations, one shift step, decimal arithmetic, quotients. -/

namespace Sys2Proof.Machine

/-- `setSZ(v)` (R128). -/
def setSZ {n : Nat} (f : Flg) (v : BitVec n) : Flg := { f with s := v.msb, z := decide (v = 0) }

/-- The exact value fits in `n` signed bits. -/
def fitsSigned (n : Nat) (i : Int) : Bool :=
  decide (-(Int.ofNat (2 ^ (n - 1))) ≤ i) && decide (i < Int.ofNat (2 ^ (n - 1)))

/-- The exact value fits in `n` unsigned bits. -/
def fitsUnsigned (n : Nat) (i : Int) : Bool := decide (0 ≤ i) && decide (i < Int.ofNat (2 ^ n))

/-- `addF(a, b, c)` (R331). -/
def addF {n : Nat} (f : Flg) (a b : BitVec n) (c : Bool) : BitVec n × Flg :=
  let r := a.toNat + b.toNat + c.toNat
  let v := BitVec.ofNat n r
  (v, { setSZ f v with
    o := !fitsSigned n (a.toInt + b.toInt + Int.ofNat c.toNat)
    c := decide (2 ^ n ≤ r) })

/-- `subF(a, b, k)`: C is "no borrow" (R332). -/
def subF {n : Nat} (f : Flg) (a b : BitVec n) (k : Bool) : BitVec n × Flg :=
  let r := Int.ofNat a.toNat - Int.ofNat b.toNat - Int.ofNat k.toNat
  let v := BitVec.ofInt n r
  (v, { setSZ f v with
    o := !fitsSigned n (a.toInt - b.toInt - Int.ofNat k.toNat)
    c := decide (0 ≤ r) })

/-! ### Operations on a destination and a source, as Operands.lean takes them -/

/-- ADD (R337). -/
def opAdd : Binary := fun _ f d x => addF f d x false

/-- ADC (R334). -/
def opAdc : Binary := fun _ f d x => addF f d x f.c

/-- ADCF (R336). -/
def opAdcf : Binary := fun _ f d _ => addF f d 0 f.c

/-- SUB (R363). -/
def opSub : Binary := fun _ f d x => subF f d x false

/-- SBB: the borrow is the inverted C (R332, R361). -/
def opSbb : Binary := fun _ f d x => subF f d x (!f.c)

/-- NEG (R360). -/
def opNeg : Binary := fun _ f d _ => subF f 0 d false

/-- CMP (R342). -/
def opCmp : Compare := fun _ f d x => (subF f d x false).2

/-- AND (R431). -/
def opAnd : Binary := fun _ f d x => (x &&& d, setSZ f (x &&& d))

/-- OR (R437). -/
def opOr : Binary := fun _ f d x => (x ||| d, setSZ f (x ||| d))

/-- XOR (R443). -/
def opXor : Binary := fun _ f d x => (x ^^^ d, setSZ f (x ^^^ d))

/-- NOT (R435). -/
def opNot : Binary := fun _ f d _ => (~~~d, setSZ f (~~~d))

/-- TST (R441). -/
def opTst : Compare := fun _ f d x => setSZ f (x &&& d)

/-- INC: S and Z only (R358). -/
def opInc : Binary := fun _ f d _ => (d + 1, setSZ f (d + 1))

/-- DEC: S and Z only (R354). -/
def opDec : Binary := fun _ f d _ => (d - 1, setSZ f (d - 1))

/-- ADJNZ's addition: no flag changes (R461). -/
def opAddQuiet : Binary := fun _ f d x => (d + x, f)

/-- ABS with the free value for C (R333, I1). -/
def opAbs (c : Bool) : Binary := fun n f d _ =>
  let r := if d.msb then 0 - d else d
  (r, { setSZ f r with o := decide (d = BitVec.twoPow n (n - 1)), c := c })

/-- ROLC (R301). -/
def opRolc : Binary := fun n f d _ =>
  let r := d <<< 1 ||| (BitVec.ofBool f.c).setWidth n
  (r, { setSZ f r with c := d.msb })

/-- RORC (R302). -/
def opRorc : Binary := fun n f d _ =>
  let r := d >>> 1 ||| (BitVec.ofBool f.c).setWidth n <<< (n - 1)
  (r, { setSZ f r with c := d.getLsbD 0 })

/-! ### Shifts (R300) -/

/-- S, Z and C taken from a free value. -/
def freeSZC (f : Flg) (w : Long) : Flg := { f with s := w.getLsbD 0, z := w.getLsbD 1, c := w.getLsbD 2 }

/-- The three kinds of shift. -/
inductive ShiftKind where
  | rot
  | sha
  | shl
deriving DecidableEq, Repr

/-- The bit a left step brings in at bit 0, given the bit that goes out (R303, R305, R309). -/
def ShiftKind.leftIn (k : ShiftKind) (out : Bool) : Bool :=
  match k with
  | .rot => out
  | .sha => false
  | .shl => false

/-- The bit a right step brings in at bit n-1, given the bit that goes out and the old sign (R303, R305, R309). -/
def ShiftKind.rightIn (k : ShiftKind) (out sign : Bool) : Bool :=
  match k with
  | .rot => out
  | .sha => sign
  | .shl => false

/-- One step: the new value and the bit that goes out (R300). -/
def shiftStep {n : Nat} (k : ShiftKind) (right : Bool) (v : BitVec n) : BitVec n × Bool :=
  if right then (putBit (v >>> 1) (n - 1) (k.rightIn (v.getLsbD 0) v.msb), v.getLsbD 0)
  else (putBit (v <<< 1) 0 (k.leftIn v.msb), v.msb)

/-- `m` steps; `out` is the bit of the last one (R300). -/
def shiftSteps {n : Nat} (k : ShiftKind) (right : Bool) : Nat → BitVec n × Bool → BitVec n × Bool
  | 0, x => x
  | m + 1, x => shiftSteps k right m (shiftStep k right x.1)

/-- A shift by a count of at least one: C the last bit out, S and Z from the result, and for SHA O set when the result's sign differs from
the operand's (R303, R305, R309, D21). -/
def opShift (k : ShiftKind) (right : Bool) (m : Nat) : Binary := fun _ f d _ =>
  let x := shiftSteps k right m (d, f.c)
  let g := { setSZ f x.1 with c := x.2 }
  (x.1, match k with
    | .sha => { g with o := d.msb != x.1.msb }
    | .rot => g
    | .shl => g)

/-- A `.B` or `.W` shift by a count outside the permitted range: destination and listed flags take the free values (R300, I2). -/
def opShiftFree (k : ShiftKind) (v w : Long) : Binary := fun n f _ _ =>
  let g := freeSZC f w
  (v.setWidth n, match k with
    | .sha => { g with o := w.getLsbD 3 }
    | .rot => g
    | .shl => g)

/-- A `.L` shift: S from the result, Z and C free, O unchanged (R307, R311, I3). -/
def longShift (k : ShiftKind) (right : Bool) (m : Nat) (f : Flg) (d w : Long) : Long × Flg :=
  let x := (shiftSteps k right m (d, f.c)).1
  (x, { f with s := x.msb, z := w.getLsbD 0, c := w.getLsbD 1 })

/-- A `.L` shift by a count outside the permitted range (R300, I2, I3). -/
def longShiftFree (f : Flg) (v w : Long) : Long × Flg :=
  (v, freeSZC f w)

/-! ### Conditions (R465) -/

/-- The condition holds of the flags (the table of R465). -/
def condHolds (c : Cond) (f : Flg) : Bool :=
  match c with
  | .geu => f.c
  | .ltu => !f.c
  | .eq => f.z
  | .ne => !f.z
  | .gtu => f.c && !f.z
  | .leu => !f.c || f.z
  | .pz => !f.s
  | .n => f.s
  | .ge => f.s == f.o
  | .le => (f.s != f.o) || f.z
  | .gt => (f.s == f.o) && !f.z
  | .lt => f.s != f.o
  | .o => f.o
  | .no => !f.o

/-! ### Decimal arithmetic (R347) -/

/-- The decimal value of `k` digits of packed BCD, or none if a digit is above 9. -/
def decDigits : Nat → Nat → Option Nat
  | 0, _ => some 0
  | k + 1, x =>
    match decDigits k (x / 16) with
    | none => none
    | some h => if x % 16 < 10 then some (10 * h + x % 16) else none

/-- The packed BCD pattern of the low `k` decimal digits of a number. -/
def bcdDigits : Nat → Nat → Nat
  | 0, _ => 0
  | k + 1, v => 16 * bcdDigits k (v / 10) + v % 10

/-- A decimal operation on FLG and two decimal values: the exact result. -/
abbrev Decimal := Flg → Int → Int → Int

/-- DADC (R348), DADD (R349), DSBB (R350) and DSUB (R351). -/
def decAdc : Decimal := fun f d x => d + x + Int.ofNat f.c.toNat
def decAdd : Decimal := fun _ d x => d + x
def decSbb : Decimal := fun f d x => d - x - Int.ofNat (!f.c).toNat
def decSub : Decimal := fun _ d x => d - x

/-- C of a decimal addition: 10^(n/4) is reached; of a subtraction: no borrow (R348, R350). -/
def decCarryAdd (k : Nat) (t : Int) : Bool := decide (Int.ofNat (10 ^ k) ≤ t)
def decCarrySub (_k : Nat) (t : Int) : Bool := decide (0 ≤ t)

/-- A decimal instruction on `n`-bit packed-BCD operands: the stored pattern, and S, Z and C of R348 to R351; none if an operand has a
digit above 9 (U6). -/
def decimalResult (op : Decimal) (carry : Nat → Int → Bool) {n : Nat} (f : Flg) (d x : BitVec n) : Option (BitVec n × Flg) :=
  match decDigits (n / 4) d.toNat, decDigits (n / 4) x.toNat with
  | some a, some b =>
    let t := op f (Int.ofNat a) (Int.ofNat b)
    let r := BitVec.ofNat n (bcdDigits (n / 4) (t.emod (Int.ofNat (10 ^ (n / 4)))).toNat)
    some (r, { setSZ f r with c := carry (n / 4) t })
  | _, _ => none

/-! ### Division and multiplication (R400, R407) -/

/-- The three divisions: how the quotient is rounded and whether operands and quotient are signed (R401, R403, R405). -/
inductive DivKind where
  | div
  | divu
  | divx
deriving DecidableEq, Repr

/-- The integer an operand stands for (R400). -/
def DivKind.value (k : DivKind) {n : Nat} (x : BitVec n) : Int :=
  match k with
  | .div => x.toInt
  | .divx => x.toInt
  | .divu => Int.ofNat x.toNat

/-- The exact quotient: rounded toward zero, or toward minus infinity (R401, R403, R405). -/
def DivKind.quotient (k : DivKind) (a b : Int) : Int :=
  match k with
  | .div => a.tdiv b
  | .divu => a.fdiv b
  | .divx => a.fdiv b

/-- The quotient is representable in `n` bits (D22). -/
def DivKind.fits (k : DivKind) (n : Nat) (q : Int) : Bool :=
  match k with
  | .div => fitsSigned n q
  | .divx => fitsSigned n q
  | .divu => fitsUnsigned n q

/-- Quotient and remainder, or none where O is set (R400). -/
def divide (k : DivKind) (n : Nat) (a b : Int) : Option (Int × Int) :=
  if b = 0 then none
  else if k.fits n (k.quotient a b) then some (k.quotient a b, a - k.quotient a b * b) else none

/-- The 2n-bit product of two n-bit operands (R408, R410). -/
def product (signed : Bool) {n : Nat} (a b : BitVec n) : BitVec (n + n) :=
  if signed then BitVec.ofInt (n + n) (a.toInt * b.toInt) else BitVec.ofNat (n + n) (a.toNat * b.toNat)

end Sys2Proof.Machine
end

