-- ==== Sys2Proof/Machine/Arithmetic.lean ====
section
/-! DEFINITION. The arithmetic instructions (43_arithmetic.md). -/

namespace Sys2Proof.Machine

/-- A decimal instruction on R0L (`.B`): with a digit above 9 in an operand, R0L, S, Z and C take free values (R347, U6). -/
def decimal8 (op : Decimal) (carry : Nat → Int → Bool) (x : Byte) (s : State) : State :=
  match decimalResult op carry s.flg (s.byte .r0lR0) x with
  | some v => (s.setByte .r0lR0 v.1).setFlg v.2
  | none =>
    let v := draw s
    let w := draw v.2
    (w.2.setByte .r0lR0 (v.1.extractLsb' 0 8)).setFlg (freeSZC s.flg w.1)

/-- A decimal instruction on R0 (`.W`) (R347, U6). -/
def decimal16 (op : Decimal) (carry : Nat → Int → Bool) (x : Word) (s : State) : State :=
  match decimalResult op carry s.flg (s.word .r0lR0) x with
  | some v => (s.setWord .r0lR0 v.1).setFlg v.2
  | none =>
    let v := draw s
    let w := draw v.2
    (w.2.setWord .r0lR0 (v.1.extractLsb' 0 16)).setFlg (freeSZC s.flg w.1)

/-- The register form: R0H into R0L, or R1 into R0 (R347). -/
def decimalReg (op : Decimal) (carry : Nat → Int → Bool) (sz : Size) (s : State) : State :=
  match sz with
  | .b => decimal8 op carry (s.byte .r0hR1) s
  | .w => decimal16 op carry (s.word .r0hR1) s

/-- The immediate form (R347). -/
def decimalImm (op : Decimal) (carry : Nat → Int → Bool) (imm : Imm) (s : State) : State :=
  match imm with
  | .b v => decimal8 op carry v s
  | .w v => decimal16 op carry v s

/-- `SP ← addF_16(SP, v, 0)` (R352). -/
def addToSp (v : Word) (s : State) : State :=
  let x := addF s.flg s.sp v false
  (s.setSp x.1).setFlg x.2

/-- EXTS.B: a byte in, the sign-extended word out (R356). The rows that are no destination change nothing; the term is not selectable. -/
def extendByte (dst : Operand) (s : State) : State :=
  match dst with
  | .dreg .r0lR0 =>
    let r := (s.byte .r0lR0).signExtend 16
    (s.setWord .r0lR0 r).setFlg (setSZ s.flg r)
  | .dreg .r1lR2 =>
    let r := (s.byte .r1lR2).signExtend 16
    (s.setWord .r0hR1 r).setFlg (setSZ s.flg r)
  | .mem m =>
    let b := readByte s (s.ea m)
    let r := b.1.signExtend 16
    (write16 b.2 (s.ea m) r).setFlg (setSZ s.flg r)
  | .dreg .r0hR1 => s
  | .dreg .r1hR3 => s
  | .areg _ => s

/-- `ADD.B:S src,R0L/R0H` (R341). -/
def execAddSSrcHalf (h : Half) (x : ShortSrc) (s : State) : Result :=
  retire (.addSSrcHalf h x) (updateG opAdd .b (ShortSrc.operand h x) (.dreg (Half.dreg h)) s)

/-- `SUB.B:S src,R0L/R0H` (R366). -/
def execSubSSrcHalf (h : Half) (x : ShortSrc) (s : State) : Result :=
  retire (.subSSrcHalf h x) (updateG opSub .b (ShortSrc.operand h x) (.dreg (Half.dreg h)) s)

/-- `CMP.B:S src,R0L/R0H` (R346). -/
def execCmpSSrcHalf (h : Half) (x : ShortSrc) (s : State) : Result :=
  retire (.cmpSSrcHalf h x) (compareG opCmp .b (ShortSrc.operand h x) (.dreg (Half.dreg h)) s)

/-- `INC.W A0/A1` (R359). -/
def execIncW (a : AReg) (s : State) : Result :=
  retire (.incW a) (updateOne opInc .w (.areg a) s)

/-- `DEC.W A0/A1` (R355). -/
def execDecW (a : AReg) (s : State) : Result :=
  retire (.decW a) (updateOne opDec .w (.areg a) s)

/-- `ADD.B:S #IMM8,dest` (R339). -/
def execAddSImm (imm : Byte) (dst : ShortDest) (s : State) : Result :=
  retire (.addSImm imm dst) (update8 opAdd imm (ShortDest.operand dst) s)

/-- `SUB.B:S #IMM8,dest` (R364). -/
def execSubSImm (imm : Byte) (dst : ShortDest) (s : State) : Result :=
  retire (.subSImm imm dst) (update8 opSub imm (ShortDest.operand dst) s)

/-- `INC.B dest` (R358). -/
def execIncB (dst : ShortDest) (s : State) : Result :=
  retire (.incB dst) (updateOne opInc .b (ShortDest.operand dst) s)

/-- `DEC.B dest` (R354). -/
def execDecB (dst : ShortDest) (s : State) : Result :=
  retire (.decB dst) (updateOne opDec .b (ShortDest.operand dst) s)

/-- `CMP.B:S #IMM8,dest` (R344). -/
def execCmpSImm (imm : Byte) (dst : ShortDest) (s : State) : Result :=
  retire (.cmpSImm imm dst) (compare8 opCmp imm (ShortDest.operand dst) s)

/-- `ADD.size:G src,dest` (R340). -/
def execAddG (sz : Size) (src dst : Operand) (s : State) : Result :=
  retire (.addG sz src dst) (updateG opAdd sz src dst s)

/-- `SUB.size:G src,dest` (R365). -/
def execSubG (sz : Size) (src dst : Operand) (s : State) : Result :=
  retire (.subG sz src dst) (updateG opSub sz src dst s)

/-- `ADC.size src,dest` (R335). -/
def execAdcG (sz : Size) (src dst : Operand) (s : State) : Result :=
  retire (.adcG sz src dst) (updateG opAdc sz src dst s)

/-- `SBB.size src,dest` (R362). -/
def execSbbG (sz : Size) (src dst : Operand) (s : State) : Result :=
  retire (.sbbG sz src dst) (updateG opSbb sz src dst s)

/-- `CMP.size:G src,dest` (R345). -/
def execCmpG (sz : Size) (src dst : Operand) (s : State) : Result :=
  retire (.cmpG sz src dst) (compareG opCmp sz src dst s)

/-- `ADD.size:Q #IMM,dest` (R338). -/
def execAddQ (sz : Size) (imm : BitVec 4) (dst : Operand) (s : State) : Result :=
  retire (.addQ sz imm dst) (updateQ opAdd sz imm dst s)

/-- `CMP.size:Q #IMM,dest` (R343). -/
def execCmpQ (sz : Size) (imm : BitVec 4) (dst : Operand) (s : State) : Result :=
  retire (.cmpQ sz imm dst) (compareQ opCmp sz imm dst s)

/-- `NEG.size dest` (R360). -/
def execNeg (sz : Size) (dst : Operand) (s : State) : Result :=
  retire (.neg sz dst) (updateOne opNeg sz dst s)

/-- `ADD.size:G #IMM,dest` (R337). -/
def execAddImm (imm : Imm) (dst : Operand) (s : State) : Result :=
  retire (.addImm imm dst) (updateImm opAdd imm dst s)

/-- `SUB.size:G #IMM,dest` (R363). -/
def execSubImm (imm : Imm) (dst : Operand) (s : State) : Result :=
  retire (.subImm imm dst) (updateImm opSub imm dst s)

/-- `ADC.size #IMM,dest` (R334). -/
def execAdcImm (imm : Imm) (dst : Operand) (s : State) : Result :=
  retire (.adcImm imm dst) (updateImm opAdc imm dst s)

/-- `SBB.size #IMM,dest` (R361). -/
def execSbbImm (imm : Imm) (dst : Operand) (s : State) : Result :=
  retire (.sbbImm imm dst) (updateImm opSbb imm dst s)

/-- `CMP.size:G #IMM,dest` (R342). -/
def execCmpImm (imm : Imm) (dst : Operand) (s : State) : Result :=
  retire (.cmpImm imm dst) (compareImm opCmp imm dst s)

/-- `ADCF.size dest` (R336). -/
def execAdcf (sz : Size) (dst : Operand) (s : State) : Result :=
  retire (.adcf sz dst) (updateOne opAdcf sz dst s)

/-- `ABS.size dest` (R333): C takes a free value (I1). -/
def execAbs (sz : Size) (dst : Operand) (s : State) : Result :=
  let v := draw s
  retire (.abs sz dst) (updateOne (opAbs (v.1.getLsbD 0)) sz dst v.2)

/-- `EXTS.B dest` (R356). -/
def execExtsB (dst : Operand) (s : State) : Result :=
  retire (.extsB dst) (extendByte dst s)

/-- `ADD.size:Q #IMM,SP` (R353). -/
def execAddQSp (imm : BitVec 4) (s : State) : Result :=
  retire (.addQSp imm) (addToSp (imm.signExtend 16) s)

/-- `ADD.size:G #IMM,SP` (R352): an 8-bit immediate is sign-extended. -/
def execAddImmSp (imm : Imm) (s : State) : Result :=
  retire (.addImmSp imm) (match imm with
    | .b v => addToSp (v.signExtend 16) s
    | .w v => addToSp v s)

/-- `DADD.size R0H,R0L / R1,R0` (R349). -/
def execDaddReg (sz : Size) (s : State) : Result :=
  retire (.daddReg sz) (decimalReg decAdd decCarryAdd sz s)

/-- `DSUB.size R0H,R0L / R1,R0` (R351). -/
def execDsubReg (sz : Size) (s : State) : Result :=
  retire (.dsubReg sz) (decimalReg decSub decCarrySub sz s)

/-- `DADC.size R0H,R0L / R1,R0` (R348). -/
def execDadcReg (sz : Size) (s : State) : Result :=
  retire (.dadcReg sz) (decimalReg decAdc decCarryAdd sz s)

/-- `DSBB.size R0H,R0L / R1,R0` (R350). -/
def execDsbbReg (sz : Size) (s : State) : Result :=
  retire (.dsbbReg sz) (decimalReg decSbb decCarrySub sz s)

/-- `DADD.size #IMM,R0L/R0` (R349). -/
def execDaddImm (imm : Imm) (s : State) : Result :=
  retire (.daddImm imm) (decimalImm decAdd decCarryAdd imm s)

/-- `DSUB.size #IMM,R0L/R0` (R351). -/
def execDsubImm (imm : Imm) (s : State) : Result :=
  retire (.dsubImm imm) (decimalImm decSub decCarrySub imm s)

/-- `DADC.size #IMM,R0L/R0` (R348). -/
def execDadcImm (imm : Imm) (s : State) : Result :=
  retire (.dadcImm imm) (decimalImm decAdc decCarryAdd imm s)

/-- `DSBB.size #IMM,R0L/R0` (R350). -/
def execDsbbImm (imm : Imm) (s : State) : Result :=
  retire (.dsbbImm imm) (decimalImm decSbb decCarrySub imm s)

/-- `EXTS.W R0` (R357): no flag changes. -/
def execExtsW (s : State) : Result :=
  retire .extsW (s.setPair .r2r0 ((s.word .r0lR0).signExtend 32))

end Sys2Proof.Machine
end

