-- ==== Sys2Proof/Machine/Bit.lean ====
section
/-! DEFINITION. The bit manipulation instructions (41_bit.md). -/

namespace Sys2Proof.Machine

/-- `C ← f(bitval(src), C)`; nothing is written to the operand (R260). -/
def combineBit (f : Bool → Bool → Bool) (p : BitPlace) (s : State) : State :=
  let b := readBit s p
  b.2.setFlg { s.flg with c := f b.1 s.flg.c }

/-- `Z ← ~bitval(src); C ← c(bitval(src))` (R270, R275). -/
def testBit (c : Bool → Bool) (p : BitPlace) (s : State) : State :=
  let b := readBit s p
  b.2.setFlg { s.flg with z := !b.1, c := c b.1 }

/-- BTSTC and BTSTS: the bit into Z and C, then `v` into the bit, with one read and one write (R279, R280). -/
def testAndPut (v : Bool) (p : BitPlace) (s : State) : State :=
  (updateBit (fun _ => v) p s).setFlg { s.flg with z := !(readBit s p).1, c := (readBit s p).1 }

/-- `BCLR:S bit,base:11[SB]` (R263). -/
def execBclrS (bit : BitVec 3) (d : Byte) (s : State) : Result :=
  retire (.bclrS bit d) (updateBit (fun _ => false) (s.bitPlaceS bit d) s)

/-- `BSET:S bit,base:11[SB]` (R274). -/
def execBsetS (bit : BitVec 3) (d : Byte) (s : State) : Result :=
  retire (.bsetS bit d) (updateBit (fun _ => true) (s.bitPlaceS bit d) s)

/-- `BNOT:S bit,base:11[SB]` (R269). -/
def execBnotS (bit : BitVec 3) (d : Byte) (s : State) : Result :=
  retire (.bnotS bit d) (updateBit not (s.bitPlaceS bit d) s)

/-- `BTST:S bit,base:11[SB]` (R276). -/
def execBtstS (bit : BitVec 3) (d : Byte) (s : State) : Result :=
  retire (.btstS bit d) (testBit id (s.bitPlaceS bit d) s)

/-- `BMCnd C` (R265). -/
def execBmcndC (c : Cond) (s : State) : Result :=
  retire (.bmcndC c) (s.setFlg { s.flg with c := condHolds c s.flg })

/-- `BTSTC dest` (R279). -/
def execBtstc (x : BitOperand) (s : State) : Result :=
  retire (.btstc x) (testAndPut false (s.bitPlace x) s)

/-- `BTSTS dest` (R280). -/
def execBtsts (x : BitOperand) (s : State) : Result :=
  retire (.btsts x) (testAndPut true (s.bitPlace x) s)

/-- `BMCnd dest` (R264): the bit is written in both cases. -/
def execBmcnd (c : Cond) (x : BitOperand) (s : State) : Result :=
  retire (.bmcnd c x) (updateBit (fun _ => condHolds c s.flg) (s.bitPlace x) s)

/-- `BNTST src` (R270). -/
def execBntst (x : BitOperand) (s : State) : Result :=
  retire (.bntst x) (testBit not (s.bitPlace x) s)

/-- `BAND src` (R261). -/
def execBand (x : BitOperand) (s : State) : Result :=
  retire (.band x) (combineBit (fun b c => b && c) (s.bitPlace x) s)

/-- `BNAND src` (R266). -/
def execBnand (x : BitOperand) (s : State) : Result :=
  retire (.bnand x) (combineBit (fun b c => !b && c) (s.bitPlace x) s)

/-- `BOR src` (R272). -/
def execBor (x : BitOperand) (s : State) : Result :=
  retire (.bor x) (combineBit (fun b c => b || c) (s.bitPlace x) s)

/-- `BNOR src` (R267). -/
def execBnor (x : BitOperand) (s : State) : Result :=
  retire (.bnor x) (combineBit (fun b c => !b || c) (s.bitPlace x) s)

/-- `BCLR:G dest` (R262). -/
def execBclrG (x : BitOperand) (s : State) : Result :=
  retire (.bclrG x) (updateBit (fun _ => false) (s.bitPlace x) s)

/-- `BSET:G dest` (R273). -/
def execBsetG (x : BitOperand) (s : State) : Result :=
  retire (.bsetG x) (updateBit (fun _ => true) (s.bitPlace x) s)

/-- `BNOT:G dest` (R268). -/
def execBnotG (x : BitOperand) (s : State) : Result :=
  retire (.bnotG x) (updateBit not (s.bitPlace x) s)

/-- `BTST:G src` (R275). -/
def execBtstG (x : BitOperand) (s : State) : Result :=
  retire (.btstG x) (testBit id (s.bitPlace x) s)

/-- `BXOR src` (R277). -/
def execBxor (x : BitOperand) (s : State) : Result :=
  retire (.bxor x) (combineBit (fun b c => b != c) (s.bitPlace x) s)

/-- `BNXOR src` (R271). -/
def execBnxor (x : BitOperand) (s : State) : Result :=
  retire (.bnxor x) (combineBit (fun b c => !b != c) (s.bitPlace x) s)

end Sys2Proof.Machine
end

