-- ==== Sys2Proof/Machine/Jump.lean ====
section
/-! DEFINITION. Jumps, calls and returns (46_jump.md). PC in the state is the start address of the instruction (R28). -/

namespace Sys2Proof.Machine

/-- A target relative to `base` bytes after the start, with a signed displacement (R124). -/
def State.relative (s : State) (base : Addr) {n : Nat} (d : BitVec n) : Addr := s.pc + base + d.signExtend 20

/-- The value of the destination of ADJNZ after its addition is not 0 (R461). -/
def nonZeroSum (sz : Size) (x : BitVec 4) (dst : Operand) (s : State) : Bool :=
  match sz with
  | .b => (readSrc8 s dst).1 + x.signExtend 8 != 0
  | .w => (readSrc16 s dst).1 + x.signExtend 16 != 0

/-- ADJNZ and SBJNZ with the addend `x`: the addition, no flag, and the jump if the sum is not 0 (R461, R462). -/
def adjustJump (i : Instr) (sz : Size) (x : BitVec 4) (dst : Operand) (d : Byte) (s : State) : Result :=
  retireAt i (if nonZeroSum sz x dst s then s.relative 2 d else s.nextPc i) (updateQ opAddQuiet sz x dst s)

/-- `JMP.S label` (R468). -/
def execJmpS (d : BitVec 3) (s : State) : Result :=
  retireAt (.jmpS d) (s.pc + 2 + d.zeroExtend 20) s

/-- `JCnd label`, one-byte op-code (R466). -/
def execJcndShort (c : Cond) (d : Byte) (s : State) : Result :=
  retireAt (.jcndShort c d) (if condHolds c s.flg then s.relative 1 d else s.nextPc (.jcndShort c d)) s

/-- `JMPS #IMM8` (R478). -/
def execJmps (n : Byte) (s : State) : Result :=
  let v := specialPageTarget s n
  retireAt (.jmps n) v.1 v.2

/-- `JSRS #IMM8` (R484): the return address is pushed before the table is read. -/
def execJsrs (n : Byte) (s : State) : Result :=
  let v := specialPageTarget (pushRet s (s.nextPc (.jsrs n))) n
  retireAt (.jsrs n) v.1 v.2

/-- `RTS` (R485). -/
def execRts (s : State) : Result :=
  let v := popRet s
  retireAt .rts v.1 v.2

/-- `JMP.W label` (R470). -/
def execJmpW (d : Word) (s : State) : Result :=
  retireAt (.jmpW d) (s.relative 1 d) s

/-- `JSR.W label` (R480). -/
def execJsrW (d : Word) (s : State) : Result :=
  retireAt (.jsrW d) (s.relative 1 d) (pushRet s (s.nextPc (.jsrW d)))

/-- `JMP.A label` (R471). -/
def execJmpA (t : Addr) (s : State) : Result :=
  retireAt (.jmpA t) t s

/-- `JSR.A label` (R481). -/
def execJsrA (t : Addr) (s : State) : Result :=
  retireAt (.jsrA t) t (pushRet s (s.nextPc (.jsrA t)))

/-- `JMP.B label` (R469). -/
def execJmpB (d : Byte) (s : State) : Result :=
  retireAt (.jmpB d) (s.relative 1 d) s

/-- `ADJNZ.size #IMM,dest,label` (R461). -/
def execAdjnz (sz : Size) (imm : BitVec 4) (dst : Operand) (d : Byte) (s : State) : Result :=
  adjustJump (.adjnz sz imm dst d) sz imm dst d s

/-- `SBJNZ.size #IMM,dest,label` (R462): `imm` is the low four bits of the subtrahend -7 to +8, and the addend is its negative. -/
def execSbjnz (sz : Size) (imm : BitVec 4) (dst : Operand) (d : Byte) (s : State) : Result :=
  adjustJump (.sbjnz sz imm dst d) sz (-imm) dst d s

/-- `JMPI.A src` (R475). -/
def execJmpiA (src : IndA) (s : State) : Result :=
  let v := readIndA s src
  retireAt (.jmpiA src) v.1 v.2

/-- `JSRI.A src` (R483): the source is read before the push. -/
def execJsriA (src : IndA) (s : State) : Result :=
  let v := readIndA s src
  retireAt (.jsriA src) v.1 (pushRet v.2 (s.nextPc (.jsriA src)))

/-- `JMPI.W src` (R474). -/
def execJmpiW (src : IndW) (s : State) : Result :=
  let v := readIndW s src
  retireAt (.jmpiW src) (s.relative 0 v.1) v.2

/-- `JSRI.W src` (R482): the source is read before the push. -/
def execJsriW (src : IndW) (s : State) : Result :=
  let v := readIndW s src
  retireAt (.jsriW src) (s.relative 0 v.1) (pushRet v.2 (s.nextPc (.jsriW src)))

/-- `JCnd label`, two-byte op-code (R467). -/
def execJcndLong (c : Cond) (d : Byte) (s : State) : Result :=
  retireAt (.jcndLong c d) (if condHolds c s.flg then s.relative 2 d else s.nextPc (.jcndLong c d)) s

end Sys2Proof.Machine
end

