-- ==== Sys2Proof/Machine/Logical.lean ====
section
/-! DEFINITION. The logical instructions (45_logical.md): AND, OR, XOR, NOT, TST. -/

namespace Sys2Proof.Machine

/-- `AND.B:S src,R0L/R0H` (R434). -/
def execAndSSrcHalf (h : Half) (x : ShortSrc) (s : State) : Result :=
  retire (.andSSrcHalf h x) (updateG opAnd .b (ShortSrc.operand h x) (.dreg (Half.dreg h)) s)

/-- `OR.B:S src,R0L/R0H` (R440). -/
def execOrSSrcHalf (h : Half) (x : ShortSrc) (s : State) : Result :=
  retire (.orSSrcHalf h x) (updateG opOr .b (ShortSrc.operand h x) (.dreg (Half.dreg h)) s)

/-- `AND.B:S #IMM8,dest` (R432). -/
def execAndSImm (imm : Byte) (dst : ShortDest) (s : State) : Result :=
  retire (.andSImm imm dst) (update8 opAnd imm (ShortDest.operand dst) s)

/-- `OR.B:S #IMM8,dest` (R438). -/
def execOrSImm (imm : Byte) (dst : ShortDest) (s : State) : Result :=
  retire (.orSImm imm dst) (update8 opOr imm (ShortDest.operand dst) s)

/-- `NOT.B:S dest` (R436). -/
def execNotS (dst : ShortDest) (s : State) : Result :=
  retire (.notS dst) (updateOne opNot .b (ShortDest.operand dst) s)

/-- `TST.size src,dest` (R442). -/
def execTstG (sz : Size) (src dst : Operand) (s : State) : Result :=
  retire (.tstG sz src dst) (compareG opTst sz src dst s)

/-- `XOR.size src,dest` (R444). -/
def execXorG (sz : Size) (src dst : Operand) (s : State) : Result :=
  retire (.xorG sz src dst) (updateG opXor sz src dst s)

/-- `AND.size:G src,dest` (R433). -/
def execAndG (sz : Size) (src dst : Operand) (s : State) : Result :=
  retire (.andG sz src dst) (updateG opAnd sz src dst s)

/-- `OR.size:G src,dest` (R439). -/
def execOrG (sz : Size) (src dst : Operand) (s : State) : Result :=
  retire (.orG sz src dst) (updateG opOr sz src dst s)

/-- `NOT.size:G dest` (R435). -/
def execNotG (sz : Size) (dst : Operand) (s : State) : Result :=
  retire (.notG sz dst) (updateOne opNot sz dst s)

/-- `TST.size #IMM,dest` (R441). -/
def execTstImm (imm : Imm) (dst : Operand) (s : State) : Result :=
  retire (.tstImm imm dst) (compareImm opTst imm dst s)

/-- `XOR.size #IMM,dest` (R443). -/
def execXorImm (imm : Imm) (dst : Operand) (s : State) : Result :=
  retire (.xorImm imm dst) (updateImm opXor imm dst s)

/-- `AND.size:G #IMM,dest` (R431). -/
def execAndImm (imm : Imm) (dst : Operand) (s : State) : Result :=
  retire (.andImm imm dst) (updateImm opAnd imm dst s)

/-- `OR.size:G #IMM,dest` (R437). -/
def execOrImm (imm : Imm) (dst : Operand) (s : State) : Result :=
  retire (.orImm imm dst) (updateImm opOr imm dst s)

end Sys2Proof.Machine
end

