-- ==== Sys2Proof/Machine/MulDiv.lean ====
section
/-! DEFINITION. Multiplication, division and the sum of products (44_muldiv.md). -/

namespace Sys2Proof.Machine

/-- A division with `.B`: R0L the quotient, R0H the remainder, R0 the dividend; with O set R0L and R0H are free (R400, I4). -/
def divide8 (k : DivKind) (x : Byte) (s : State) : State :=
  match divide k 8 (k.value (s.word .r0lR0)) (k.value x) with
  | some (q, r) => (s.setWord .r0lR0 (BitVec.ofInt 8 r ++ BitVec.ofInt 8 q)).setFlg { s.flg with o := false }
  | none =>
    let v := draw s
    (v.2.setWord .r0lR0 (v.1.extractLsb' 0 16)).setFlg { s.flg with o := true }

/-- A division with `.W`: R0 the quotient, R2 the remainder, R2R0 the dividend; with O set R0 and R2 are free (R400, I4). -/
def divide16 (k : DivKind) (x : Word) (s : State) : State :=
  match divide k 16 (k.value (s.pair .r2r0)) (k.value x) with
  | some (q, r) => (s.setPair .r2r0 (BitVec.ofInt 16 r ++ BitVec.ofInt 16 q)).setFlg { s.flg with o := false }
  | none =>
    let v := draw s
    (v.2.setPair .r2r0 v.1).setFlg { s.flg with o := true }

def divideG (k : DivKind) (sz : Size) (src : Operand) (s : State) : State :=
  match sz with
  | .b => divide8 k (readSrc8 s src).1 (readSrc8 s src).2
  | .w => divide16 k (readSrc16 s src).1 (readSrc16 s src).2

def divideImm (k : DivKind) (imm : Imm) (s : State) : State :=
  match imm with
  | .b v => divide8 k v s
  | .w v => divide16 k v s

/-- A multiplication with `.B`, by the table of R407. The rows printed "---" change nothing; the term is not selectable. -/
def multiply8 (signed : Bool) (x : Byte) (dst : Operand) (s : State) : State :=
  match dst with
  | .dreg .r0lR0 => s.setWord .r0lR0 (product signed (s.byte .r0lR0) x)
  | .dreg .r1lR2 => s.setWord .r0hR1 (product signed (s.byte .r1lR2) x)
  | .areg a => s.setAreg a (product signed (loByte (s.areg a)) x)
  | .mem m =>
    let d := readByte s (s.ea m)
    write16 d.2 (s.ea m) (product signed d.1 x)
  | .dreg .r0hR1 => s
  | .dreg .r1hR3 => s

/-- A multiplication with `.W`, by the table of R407. The rows printed "---" change nothing; the term is not selectable. -/
def multiply16 (signed : Bool) (x : Word) (dst : Operand) (s : State) : State :=
  match dst with
  | .dreg .r0lR0 => s.setPair .r2r0 (product signed (s.word .r0lR0) x)
  | .dreg .r0hR1 => s.setPair .r3r1 (product signed (s.word .r0hR1) x)
  | .areg .a0 => s.setApair .a1a0 (product signed (s.areg .a0) x)
  | .mem m =>
    let d := read16 s (s.ea m)
    write32 d.2 (s.ea m) (product signed d.1 x)
  | .dreg .r1lR2 => s
  | .dreg .r1hR3 => s
  | .areg .a1 => s

def multiplyG (signed : Bool) (sz : Size) (src dst : Operand) (s : State) : State :=
  match sz with
  | .b => multiply8 signed (readSrc8 s src).1 dst (readSrc8 s src).2
  | .w => multiply16 signed (readSrc16 s src).1 dst (readSrc16 s src).2

def multiplyImm (signed : Bool) (imm : Imm) (dst : Operand) (s : State) : State :=
  match imm with
  | .b v => multiply8 signed v dst s
  | .w v => multiply16 signed v dst s

/-- The sum after one product of RMPA, exact, and the state after its two reads, multiplicand first (R412). -/
def rmpaSum (sz : Size) (s : State) : Int × State :=
  match sz with
  | .b =>
    let x := readByte s (zext20 (s.areg .a0))
    let y := readByte x.2 (zext20 (s.areg .a1))
    ((s.word .r0lR0).toInt + x.1.toInt * y.1.toInt, y.2)
  | .w =>
    let x := read16 s (zext20 (s.areg .a0))
    let y := read16 x.2 (zext20 (s.areg .a1))
    ((s.pair .r2r0).toInt + x.1.toInt * y.1.toInt, y.2)

/-- The accumulator, R0 or R2R0, takes a sum modulo its width (R412). -/
def setAccumulator (sz : Size) (acc : Int) (s : State) : State :=
  match sz with
  | .b => s.setWord .r0lR0 (BitVec.ofInt 16 acc)
  | .w => s.setPair .r2r0 (BitVec.ofInt 32 acc)

/-- The size of an element in bytes. -/
def elementSize (sz : Size) : Word :=
  match sz with
  | .b => 1
  | .w => 2

/-- `RMPA.size` (R412), one sum of products per step (R503, log 33): on overflow O is set, the accumulator is truncated and A0, A1 and R3
are free (I5); the last one clears O and goes on to the next instruction. -/
def execRmpa (sz : Size) (s : State) : Result :=
  if s.word .r1hR3 = 0 then retire (.rmpa sz) s
  else
    let x := rmpaSum sz s
    if fitsSigned (2 * sz.bits) x.1 then
      let t := setAccumulator sz x.1 x.2
      let t := t.setAreg .a0 (s.areg .a0 + elementSize sz)
      let t := t.setAreg .a1 (s.areg .a1 + elementSize sz)
      let t := t.setWord .r1hR3 (s.word .r1hR3 - 1)
      if s.word .r1hR3 = 1 then retire (.rmpa sz) (t.setFlg { s.flg with o := false })
      else retireAt (.rmpa sz) s.pc t
    else
      let v := draw (setAccumulator sz x.1 x.2)
      let w := draw v.2
      let t := w.2.setAreg .a0 (v.1.extractLsb' 0 16)
      let t := t.setAreg .a1 (v.1.extractLsb' 16 16)
      let t := t.setWord .r1hR3 (w.1.extractLsb' 0 16)
      retire (.rmpa sz) (t.setFlg { s.flg with o := true })

/-- `MULU.size src,dest` (R411). -/
def execMuluG (sz : Size) (src dst : Operand) (s : State) : Result :=
  retire (.muluG sz src dst) (multiplyG false sz src dst s)

/-- `MUL.size src,dest` (R409). -/
def execMulG (sz : Size) (src dst : Operand) (s : State) : Result :=
  retire (.mulG sz src dst) (multiplyG true sz src dst s)

/-- `MULU.size #IMM,dest` (R410). -/
def execMuluImm (imm : Imm) (dst : Operand) (s : State) : Result :=
  retire (.muluImm imm dst) (multiplyImm false imm dst s)

/-- `MUL.size #IMM,dest` (R408). -/
def execMulImm (imm : Imm) (dst : Operand) (s : State) : Result :=
  retire (.mulImm imm dst) (multiplyImm true imm dst s)

/-- `DIVX.size src` (R406). -/
def execDivx (sz : Size) (src : Operand) (s : State) : Result :=
  retire (.divx sz src) (divideG .divx sz src s)

/-- `DIVU.size src` (R404). -/
def execDivu (sz : Size) (src : Operand) (s : State) : Result :=
  retire (.divu sz src) (divideG .divu sz src s)

/-- `DIV.size src` (R402). -/
def execDiv (sz : Size) (src : Operand) (s : State) : Result :=
  retire (.div sz src) (divideG .div sz src s)

/-- `DIVU.size #IMM` (R403). -/
def execDivuImm (imm : Imm) (s : State) : Result :=
  retire (.divuImm imm) (divideImm .divu imm s)

/-- `DIV.size #IMM` (R401). -/
def execDivImm (imm : Imm) (s : State) : Result :=
  retire (.divImm imm) (divideImm .div imm s)

/-- `DIVX.size #IMM` (R405). -/
def execDivxImm (imm : Imm) (s : State) : Result :=
  retire (.divxImm imm) (divideImm .divx imm s)

end Sys2Proof.Machine
end

