-- ==== Sys2Proof/Machine/Other.lean ====
section
/-! DEFINITION. Control registers, flags, stack frame, task context, software interrupts, NOP and WAIT (48_other.md). -/

namespace Sys2Proof.Machine

/-- A software interrupt (R520): the sequence with the address of the next instruction, and no change of IPL. -/
def softwareInterrupt (i : Instr) (vec : Addr) (clearU : Bool) (s : State) : Result :=
  let t := interruptSequence s vec (s.nextPc i) clearU none
  retireAt i t.pc t

/-- The vector of BRK, and the state after it has been looked up: FFFE4h, or the variable table's entry 0 if the four bytes there are all
FFh (R77, R521, log 26). -/
def brkVector (s : State) : Addr × State :=
  let v := read32 s 0xFFFE4
  (if v.1 = 0xFFFFFFFF then variableVector s 0 else 0xFFFE4, v.2)

/-- FSET and FCLR (R524, R525). -/
def putFlag (f : Flag) (v : Bool) (g : Flg) : Flg :=
  match f with
  | .c => { g with c := v }
  | .d => { g with d := v }
  | .z => { g with z := v }
  | .s => { g with s := v }
  | .b => { g with b := v }
  | .o => { g with o := v }
  | .i => { g with i := v }
  | .u => { g with u := v }

/-- `inhibit_irq_once ← true` (R49, R673). -/
def State.inhibit (s : State) : State := { s with inhibitOnce := true }

/-- `BRK` (R521). -/
def execBrk (s : State) : Result :=
  let v := brkVector s
  softwareInterrupt .brk v.1 true v.2

/-- `NOP` (R545). -/
def execNop (s : State) : Result :=
  retire .nop s

/-- `INTO` (R527). -/
def execInto (s : State) : Result :=
  if s.flg.o then softwareInterrupt .into 0xFFFE0 true s else retire .into s

/-- `REIT` (R560). -/
def execReit (s : State) : Result :=
  let t := interruptReturn s
  retireAt .reit t.pc t

/-- `UND` (R570). -/
def execUnd (s : State) : Result :=
  softwareInterrupt .und 0xFFFDC true s

/-- `LDC src,dest` (R535, R537). -/
def execLdc (c : CReg) (src : Operand) (s : State) : Result :=
  let x := readSrc16 s src
  retire (.ldc c src) (x.2.setCreg c x.1).inhibit

/-- `STC src,dest` (R565). -/
def execStc (c : CReg) (dst : Operand) (s : State) : Result :=
  retire (.stc c dst) (writeDest16 s dst (s.creg c))

/-- `STC PC,dest` (R566): the address of the next instruction (D5), zero-filled (D13). -/
def execStcPc (dst : PcDest) (s : State) : Result :=
  let v := s.nextPc (.stcPc dst)
  retire (.stcPc dst) (match dst with
    | .pair p => s.setApair p (v.zeroExtend 32)
    | .mem m => write24 s (s.ea m) (v.zeroExtend 24))

/-- `LDIPL #IMM` (R541). -/
def execLdipl (l : BitVec 3) (s : State) : Result :=
  retire (.ldipl l) (s.setFlg { s.flg with ipl := l })

/-- `LDCTX abs16,abs20` (R538): the transfers use a pointer of their own, and SP moves by the correction value. -/
def execLdctx (n : Word) (t : Addr) (s : State) : Result :=
  let x := readContext s n t
  retire (.ldctx n t) ((loadRegs x.1.1 x.2 s.sp).1.setSp (s.sp + x.1.2))

/-- `STCTX abs16,abs20` (R567). -/
def execStctx (n : Word) (t : Addr) (s : State) : Result :=
  let x := readContext s n t
  retire (.stctx n t) ((storeRegs x.1.1 x.2 s.sp).1.setSp (s.sp - x.1.2))

/-- `ENTER #IMM8` (R522). -/
def execEnter (n : Byte) (s : State) : Result :=
  let t := push16 s s.fb
  let t := t.setFb t.sp
  retire (.enter n) (t.setSp (t.sp - n.zeroExtend 16))

/-- `EXITD` (R523). -/
def execExitd (s : State) : Result :=
  let x := pop16 (s.setSp s.fb)
  let v := popRet (x.2.setFb x.1)
  retireAt .exitd v.1 v.2

/-- `WAIT` (R580). -/
def execWait (s : State) : Result :=
  retire .wait { s with waiting := true }

/-- `LDC #IMM16,dest` (R535, R536). -/
def execLdcImm (c : CReg) (imm : Word) (s : State) : Result :=
  retire (.ldcImm c imm) (s.setCreg c imm).inhibit

/-- `LDINTB #IMM20` (R540): LDC to INTBH, then LDC to INTBL. The decoder answers the two LDC instructions, never this term (log 34). -/
def execLdintb (t : Addr) (s : State) : Result :=
  let x := (s.setCreg .intbh ((t.extractLsb' 16 4).zeroExtend 16)).inhibit
  retire (.ldintb t) (x.setCreg .intbl (t.extractLsb' 0 16)).inhibit

/-- `PUSHC src` (R554): the register is read before SP moves. -/
def execPushc (c : CReg) (s : State) : Result :=
  retire (.pushc c) (push16 s (s.creg c))

/-- `POPC dest` (R553): no 2 is added if the destination is the selected stack pointer; with FLG the new U counts afterwards. -/
def execPopc (c : CReg) (s : State) : Result :=
  let v := read16 s (zext20 s.sp)
  retire (.popc c) (if s.isStackPointer c then v.2.setSp v.1
    else (v.2.setSp (s.sp + 2)).setCreg c v.1).inhibit

/-- `FSET dest` (R525). -/
def execFset (f : Flag) (s : State) : Result :=
  retire (.fset f) (s.setFlg (putFlag f true s.flg))

/-- `FCLR dest` (R524). -/
def execFclr (f : Flag) (s : State) : Result :=
  retire (.fclr f) (s.setFlg (putFlag f false s.flg))

/-- `INT #IMM` (R526): U is cleared for numbers 0 to 31. -/
def execInt (n : BitVec 6) (s : State) : Result :=
  softwareInterrupt (.int n) (variableVector s n.toNat) (decide (n.toNat ≤ 31)) s

end Sys2Proof.Machine
end

