-- ==== Sys2Proof/Machine/Shift.lean ====
section
/-! DEFINITION. The shift and rotate instructions (42_shift.md). -/

namespace Sys2Proof.Machine

/-- A count of `#IMM` forms: its magnitude, 1 to 8 (R108 c). -/
def shiftMagnitude (k : ShiftCount) : Nat := k.less1.toNat + 1

/-- ROT, SHA or SHL of `.B` and `.W` by `#IMM` (R303, R305, R309). -/
def shiftImm (k : ShiftKind) (sz : Size) (c : ShiftCount) (dst : Operand) (s : State) : State :=
  updateOne (opShift k c.right (shiftMagnitude c)) sz dst s

/-- ROT, SHA or SHL of `.B` and `.W` by R1H (R300): a count of 0 changes nothing and makes no access (log 36), one outside -n to +n leaves
the destination and the listed flags free (I2). -/
def shiftR1H (k : ShiftKind) (sz : Size) (dst : Operand) (s : State) : State :=
  let c := (s.byte .r1hR3).toInt
  if c = 0 then s
  else if c.natAbs ≤ sz.bits then updateOne (opShift k (decide (c < 0)) c.natAbs) sz dst s
  else
    let v := draw s
    let w := draw v.2
    updateOne (opShiftFree k v.1 w.1) sz dst w.2

/-- SHA.L or SHL.L by `#IMM` (R307, R311). -/
def shiftLongImm (k : ShiftKind) (p : Pair) (c : ShiftCount) (s : State) : State :=
  let w := draw s
  let x := longShift k c.right (shiftMagnitude c) s.flg (s.pair p) w.1
  (w.2.setPair p x.1).setFlg x.2

/-- SHA.L or SHL.L by R1H, -16 to +16 (R300, R308, R312). R1H is read before the pair is written. -/
def shiftLongR1H (k : ShiftKind) (p : Pair) (s : State) : State :=
  let c := (s.byte .r1hR3).toInt
  if c = 0 then s
  else if c.natAbs ≤ 16 then
    let w := draw s
    let x := longShift k (decide (c < 0)) c.natAbs s.flg (s.pair p) w.1
    (w.2.setPair p x.1).setFlg x.2
  else
    let v := draw s
    let w := draw v.2
    let x := longShiftFree s.flg v.1 w.1
    (w.2.setPair p x.1).setFlg x.2

/-- `ROT.size #IMM,dest` (R303). -/
def execRotImm (sz : Size) (k : ShiftCount) (dst : Operand) (s : State) : Result :=
  retire (.rotImm sz k dst) (shiftImm .rot sz k dst s)

/-- `SHL.size #IMM,dest` (R309). -/
def execShlImm (sz : Size) (k : ShiftCount) (dst : Operand) (s : State) : Result :=
  retire (.shlImm sz k dst) (shiftImm .shl sz k dst s)

/-- `SHA.size #IMM,dest` (R305). -/
def execShaImm (sz : Size) (k : ShiftCount) (dst : Operand) (s : State) : Result :=
  retire (.shaImm sz k dst) (shiftImm .sha sz k dst s)

/-- `ROT.size R1H,dest` (R304). -/
def execRotR1H (sz : Size) (dst : Operand) (s : State) : Result :=
  retire (.rotR1H sz dst) (shiftR1H .rot sz dst s)

/-- `SHL.size R1H,dest` (R310). -/
def execShlR1H (sz : Size) (dst : Operand) (s : State) : Result :=
  retire (.shlR1H sz dst) (shiftR1H .shl sz dst s)

/-- `SHA.size R1H,dest` (R306). -/
def execShaR1H (sz : Size) (dst : Operand) (s : State) : Result :=
  retire (.shaR1H sz dst) (shiftR1H .sha sz dst s)

/-- `ROLC.size dest` (R301). -/
def execRolc (sz : Size) (dst : Operand) (s : State) : Result :=
  retire (.rolc sz dst) (updateOne opRolc sz dst s)

/-- `RORC.size dest` (R302). -/
def execRorc (sz : Size) (dst : Operand) (s : State) : Result :=
  retire (.rorc sz dst) (updateOne opRorc sz dst s)

/-- `SHL.L R1H,dest` (R312). -/
def execShlLR1H (p : Pair) (s : State) : Result :=
  retire (.shlLR1H p) (shiftLongR1H .shl p s)

/-- `SHA.L R1H,dest` (R308). -/
def execShaLR1H (p : Pair) (s : State) : Result :=
  retire (.shaLR1H p) (shiftLongR1H .sha p s)

/-- `SHL.L #IMM,dest` (R311). -/
def execShlLImm (p : Pair) (k : ShiftCount) (s : State) : Result :=
  retire (.shlLImm p k) (shiftLongImm .shl p k s)

/-- `SHA.L #IMM,dest` (R307). -/
def execShaLImm (p : Pair) (k : ShiftCount) (s : State) : Result :=
  retire (.shaLImm p k) (shiftLongImm .sha p k s)

end Sys2Proof.Machine
end

