-- ==== Sys2Proof/Machine/Strings.lean ====
section
/-! DEFINITION. The string instructions (47_string.md). One step runs one iteration: PC stays at the instruction until R3 is 0 (R500, R503,
D4, log 33). -/

namespace Sys2Proof.Machine

/-- The end of one iteration: R3 counts down, and the instruction is complete when it reaches 0 (R500). -/
def endIteration (i : Instr) (s t : State) : Result :=
  let t := t.setWord .r1hR3 (s.word .r1hR3 - 1)
  if s.word .r1hR3 = 1 then retire i t else retireAt i s.pc t

/-- The source address R1H:A0 in 20 bits; bits 7:4 of R1H take no part (R501, D13). -/
def stringSource (s : State) : Addr := (s.byte .r1hR3).extractLsb' 0 4 ++ s.areg .a0

/-- One element from R1H:A0 to A1 (R501). -/
def copyElement (sz : Size) (s : State) : State :=
  match sz with
  | .b => writeByte (readByte s (stringSource s)).2 (zext20 (s.areg .a1)) (readByte s (stringSource s)).1
  | .w => write16 (read16 s (stringSource s)).2 (zext20 (s.areg .a1)) (read16 s (stringSource s)).1

/-- `SMOVF.size` (R502). -/
def execSmovf (sz : Size) (s : State) : Result :=
  if s.word .r1hR3 = 0 then retire (.smovf sz) s
  else
    let t := copyElement sz s
    let carry := decide (0x10000 ≤ (s.areg .a0).toNat + (elementSize sz).toNat)
    let t := if carry then t.setByte .r1hR3 (s.byte .r1hR3 + 1) else t
    let t := t.setAreg .a0 (s.areg .a0 + elementSize sz)
    let t := t.setAreg .a1 (s.areg .a1 + elementSize sz)
    endIteration (.smovf sz) s t

/-- `SMOVB.size` (R501). -/
def execSmovb (sz : Size) (s : State) : Result :=
  if s.word .r1hR3 = 0 then retire (.smovb sz) s
  else
    let t := copyElement sz s
    let borrow := decide ((s.areg .a0).toNat < (elementSize sz).toNat)
    let t := if borrow then t.setByte .r1hR3 (s.byte .r1hR3 - 1) else t
    let t := t.setAreg .a0 (s.areg .a0 - elementSize sz)
    let t := t.setAreg .a1 (s.areg .a1 - elementSize sz)
    endIteration (.smovb sz) s t

/-- `SSTR.size` (R504). -/
def execSstr (sz : Size) (s : State) : Result :=
  if s.word .r1hR3 = 0 then retire (.sstr sz) s
  else
    let t := match sz with
      | .b => writeByte s (zext20 (s.areg .a1)) (s.byte .r0lR0)
      | .w => write16 s (zext20 (s.areg .a1)) (s.word .r0lR0)
    endIteration (.sstr sz) s (t.setAreg .a1 (s.areg .a1 + elementSize sz))

end Sys2Proof.Machine
end

