-- ==== Sys2Proof/Machine/Transfer.lean ====
section
/-! DEFINITION. The transfer instructions (40_transfer.md): MOV, MOVA, MOVDir, POP, POPM, PUSH, PUSHA, PUSHM, LDE, STE, STZ, STNZ, STZX, XCHG. -/

namespace Sys2Proof.Machine

/-- MOV with `.B` (R201): A0 and A1 take the zero-extended byte, and S and Z see 16 bits. -/
def move8 (x : Byte) (dst : Operand) (s : State) : State :=
  match dst with
  | .areg a => (s.setAreg a (x.zeroExtend 16)).setFlg (setSZ s.flg (x.zeroExtend 16))
  | .dreg r => (s.setByte r x).setFlg (setSZ s.flg x)
  | .mem m => (writeByte s (s.ea m) x).setFlg (setSZ s.flg x)

/-- MOV with `.W` (R201). -/
def move16 (x : Word) (dst : Operand) (s : State) : State :=
  (writeDest16 s dst x).setFlg (setSZ s.flg x)

/-- MOV or LDE from a memory operand at a given address (R204, R227). -/
def moveFrom (sz : Size) (a : Addr) (dst : Operand) (s : State) : State :=
  match sz with
  | .b => move8 (readByte s a).1 dst (readByte s a).2
  | .w => move16 (read16 s a).1 dst (read16 s a).2

/-- MOV from an immediate (R202). -/
def moveImm (imm : Imm) (dst : Operand) (s : State) : State :=
  match imm with
  | .b v => move8 v dst s
  | .w v => move16 v dst s

/-- MOV from a general operand (R206). -/
def moveG (sz : Size) (src dst : Operand) (s : State) : State :=
  match sz with
  | .b => move8 (readSrc8 s src).1 dst (readSrc8 s src).2
  | .w => move16 (readSrc16 s src).1 dst (readSrc16 s src).2

/-- MOV to `dsp:8[SP]` (R205). -/
def moveToSp (sz : Size) (src : Operand) (d : Byte) (s : State) : State :=
  match sz with
  | .b =>
    let x := readSrc8 s src
    (writeByte x.2 (s.eaSp d) x.1).setFlg (setSZ s.flg x.1)
  | .w =>
    let x := readSrc16 s src
    (write16 x.2 (s.eaSp d) x.1).setFlg (setSZ s.flg x.1)

/-- STE (R231): with `.B` from A0 or A1 the flags see all 16 bits of the register. -/
def storeExtended (sz : Size) (src : Operand) (a : Addr) (s : State) : State :=
  match sz with
  | .b =>
    let x := readSrc8 s src
    (writeByte x.2 a x.1).setFlg (match src with
      | .areg r => setSZ s.flg (s.areg r)
      | .dreg _ => setSZ s.flg x.1
      | .mem _ => setSZ s.flg x.1)
  | .w =>
    let x := readSrc16 s src
    (write16 x.2 a x.1).setFlg (setSZ s.flg x.1)

/-- The nibble merge of MOVDir (R214). -/
def mergeNibble (dir : Dir) (src dst : Byte) : Byte :=
  match dir with
  | .hh => src.extractLsb' 4 4 ++ dst.extractLsb' 0 4
  | .lh => src.extractLsb' 0 4 ++ dst.extractLsb' 0 4
  | .hl => dst.extractLsb' 4 4 ++ src.extractLsb' 4 4
  | .ll => dst.extractLsb' 4 4 ++ src.extractLsb' 0 4

/-- PUSH of a general operand (R221, R222). -/
def pushOperand (sz : Size) (src : Operand) (s : State) : State :=
  match sz with
  | .b => push8 (readSrc8 s src).2 (readSrc8 s src).1
  | .w => push16 (readSrc16 s src).2 (readSrc16 s src).1

/-- POP to a general operand (R217). -/
def popOperand (sz : Size) (dst : Operand) (s : State) : State :=
  match sz with
  | .b => writeDest8 (pop8 s).2 dst (pop8 s).1
  | .w => writeDest16 (pop16 s).2 dst (pop16 s).1

/-- XCHG (R238). -/
def exchange (sz : Size) (r : DReg) (dst : Operand) (s : State) : State :=
  match sz with
  | .b =>
    let d := readSrc8 s dst
    (writeDest8 d.2 dst (s.byte r)).setByte r d.1
  | .w =>
    let d := readSrc16 s dst
    (writeDest16 d.2 dst (s.word r)).setWord r d.1

/-- `MOV.B:S R0L/R0H,dest` (R211). -/
def execMovSHalfDest (h : Half) (m : ShortMem) (s : State) : Result :=
  retire (.movSHalfDest h m) (move8 (s.byte (Half.dreg h)) (ShortMem.operand m) s)

/-- `MOV.B:S src,R0L/R0H` (R212). -/
def execMovSSrcHalf (h : Half) (x : ShortSrc) (s : State) : Result :=
  retire (.movSSrcHalf h x) (moveG .b (ShortSrc.operand h x) (.dreg (Half.dreg h)) s)

/-- `MOV.B:S src,A0/A1` (R207). -/
def execMovSSrcA (a : AReg) (x : ShortSrc) (s : State) : Result :=
  retire (.movSSrcA a x) (moveG .b (ShortSrc.operandA a x) (.areg a) s)

/-- `PUSH.B:S R0L/R0H` (R223). -/
def execPushBS (h : Half) (s : State) : Result :=
  retire (.pushBS h) (pushOperand .b (.dreg (Half.dreg h)) s)

/-- `POP.B:S R0L/R0H` (R218). -/
def execPopBS (h : Half) (s : State) : Result :=
  retire (.popBS h) (popOperand .b (.dreg (Half.dreg h)) s)

/-- `PUSH.W:S A0/A1` (R224). -/
def execPushWS (a : AReg) (s : State) : Result :=
  retire (.pushWS a) (pushOperand .w (.areg a) s)

/-- `POP.W:S A0/A1` (R219). -/
def execPopWS (a : AReg) (s : State) : Result :=
  retire (.popWS a) (popOperand .w (.areg a) s)

/-- `MOV.W:S #IMM16,A0/A1` (R209). -/
def execMovWSImmA (a : AReg) (imm : Word) (s : State) : Result :=
  retire (.movWSImmA a imm) (move16 imm (.areg a) s)

/-- `MOV.B:S #IMM8,A0/A1` (R209). -/
def execMovBSImmA (a : AReg) (imm : Byte) (s : State) : Result :=
  retire (.movBSImmA a imm) (move8 imm (.areg a) s)

/-- `MOV.B:Z #0,dest` (R210). -/
def execMovZ (dst : ShortDest) (s : State) : Result :=
  retire (.movZ dst) (move8 0 (ShortDest.operand dst) s)

/-- `MOV.B:S #IMM8,dest` (R208). -/
def execMovSImm (imm : Byte) (dst : ShortDest) (s : State) : Result :=
  retire (.movSImm imm dst) (move8 imm (ShortDest.operand dst) s)

/-- `STZ #IMM8,dest` (R236): no access when Z = 0 (D20). -/
def execStz (imm : Byte) (dst : ShortDest) (s : State) : Result :=
  retire (.stz imm dst) (if s.flg.z then writeDest8 s (ShortDest.operand dst) imm else s)

/-- `STNZ #IMM8,dest` (R235): no access when Z = 1 (D20). -/
def execStnz (imm : Byte) (dst : ShortDest) (s : State) : Result :=
  retire (.stnz imm dst) (if s.flg.z then s else writeDest8 s (ShortDest.operand dst) imm)

/-- `STZX #IMM81,#IMM82,dest` (R237). -/
def execStzx (imm1 imm2 : Byte) (dst : ShortDest) (s : State) : Result :=
  retire (.stzx imm1 imm2 dst) (writeDest8 s (ShortDest.operand dst) (if s.flg.z then imm1 else imm2))

/-- `PUSHM src` (R226). -/
def execPushm (l : RegList) (s : State) : Result :=
  let x := storeRegs l s s.sp
  retire (.pushm l) (x.1.setSp x.2)

/-- `POPM dest` (R220). -/
def execPopm (l : RegList) (s : State) : Result :=
  let x := loadRegs l s s.sp
  retire (.popm l) (x.1.setSp x.2)

/-- `MOV.size:G src,dest` (R206). -/
def execMovG (sz : Size) (src dst : Operand) (s : State) : Result :=
  retire (.movG sz src dst) (moveG sz src dst s)

/-- `MOV.size:Q #IMM,dest` (R203). -/
def execMovQ (sz : Size) (imm : BitVec 4) (dst : Operand) (s : State) : Result :=
  retire (.movQ sz imm dst) (match sz with
    | .b => move8 (imm.signExtend 8) dst s
    | .w => move16 (imm.signExtend 16) dst s)

/-- `STE.size src,abs20` (R232). -/
def execSteAbs20 (sz : Size) (src : Operand) (t : Addr) (s : State) : Result :=
  retire (.steAbs20 sz src t) (storeExtended sz src t s)

/-- `STE.size src,dsp:20[A0]` (R233). -/
def execSteDsp20 (sz : Size) (src : Operand) (d : Addr) (s : State) : Result :=
  retire (.steDsp20 sz src d) (storeExtended sz src (s.eaDsp20 .a0 d) s)

/-- `STE.size src,[A1A0]` (R234). -/
def execSteA1A0 (sz : Size) (src : Operand) (s : State) : Result :=
  retire (.steA1A0 sz src) (storeExtended sz src s.eaA1A0 s)

/-- `MOV.size:G src,dsp:8[SP]` (R205). -/
def execMovToSp (sz : Size) (src : Operand) (d : Byte) (s : State) : Result :=
  retire (.movToSp sz src d) (moveToSp sz src d s)

/-- `PUSH.size:G src` (R222). -/
def execPushG (sz : Size) (src : Operand) (s : State) : Result :=
  retire (.pushG sz src) (pushOperand sz src s)

/-- `LDE.size abs20,dest` (R228). -/
def execLdeAbs20 (sz : Size) (t : Addr) (dst : Operand) (s : State) : Result :=
  retire (.ldeAbs20 sz t dst) (moveFrom sz t dst s)

/-- `LDE.size dsp:20[A0],dest` (R229). -/
def execLdeDsp20 (sz : Size) (d : Addr) (dst : Operand) (s : State) : Result :=
  retire (.ldeDsp20 sz d dst) (moveFrom sz (s.eaDsp20 .a0 d) dst s)

/-- `LDE.size [A1A0],dest` (R230). -/
def execLdeA1A0 (sz : Size) (dst : Operand) (s : State) : Result :=
  retire (.ldeA1A0 sz dst) (moveFrom sz s.eaA1A0 dst s)

/-- `MOV.size:G dsp:8[SP],dest` (R204). -/
def execMovFromSp (sz : Size) (d : Byte) (dst : Operand) (s : State) : Result :=
  retire (.movFromSp sz d dst) (moveFrom sz (s.eaSp d) dst s)

/-- `MOV.size:G #IMM,dest` (R202). -/
def execMovGImm (imm : Imm) (dst : Operand) (s : State) : Result :=
  retire (.movGImm imm dst) (moveImm imm dst s)

/-- `POP.size:G dest` (R217). -/
def execPopG (sz : Size) (dst : Operand) (s : State) : Result :=
  retire (.popG sz dst) (popOperand sz dst s)

/-- `XCHG.size src,dest` (R238). -/
def execXchg (sz : Size) (r : DReg) (dst : Operand) (s : State) : Result :=
  retire (.xchg sz r dst) (exchange sz r dst s)

/-- `MOVDir src,R0L` (R216). -/
def execMovDirToR0L (dir : Dir) (src : Operand) (s : State) : Result :=
  let x := readSrc8 s src
  retire (.movDirToR0L dir src) (x.2.setByte .r0lR0 (mergeNibble dir x.1 (s.byte .r0lR0)))

/-- `MOVDir R0L,dest` (R215): a memory destination is read and written as one byte. -/
def execMovDirFromR0L (dir : Dir) (dst : Operand) (s : State) : Result :=
  let d := readSrc8 s dst
  retire (.movDirFromR0L dir dst) (writeDest8 d.2 dst (mergeNibble dir (s.byte .r0lR0) d.1))

/-- `PUSHA src` (R225): the operand itself is not accessed. -/
def execPusha (m : Mem) (s : State) : Result :=
  retire (.pusha m) (push16 s (s.ea16 m))

/-- `PUSH.size:G #IMM` (R221). -/
def execPushImm (imm : Imm) (s : State) : Result :=
  retire (.pushImm imm) (match imm with
    | .b v => push8 s v
    | .w v => push16 s v)

/-- `MOVA src,dest` (R213). -/
def execMova (m : Mem) (dst : MovaDest) (s : State) : Result :=
  retire (.mova m dst) (match dst with
    | .dreg r => s.setWord r (s.ea16 m)
    | .areg a => s.setAreg a (s.ea16 m))

end Sys2Proof.Machine
end

