-- ==== Sys2Proof/Machine/Dispatch.lean ====
section
/-! DEFINITION. The meaning of every instruction, one arm per constructor of Instr. -/

namespace Sys2Proof.Machine

def exec (i : Instr) (s : State) : Host.Outcome State Fault Refusal :=
  match i with
  | .brk => Sys2Proof.Machine.execBrk s
  | .movSHalfDest h m => Sys2Proof.Machine.execMovSHalfDest h m s
  | .nop => Sys2Proof.Machine.execNop s
  | .movSSrcHalf h x => Sys2Proof.Machine.execMovSSrcHalf h x s
  | .andSSrcHalf h x => Sys2Proof.Machine.execAndSSrcHalf h x s
  | .orSSrcHalf h x => Sys2Proof.Machine.execOrSSrcHalf h x s
  | .addSSrcHalf h x => Sys2Proof.Machine.execAddSSrcHalf h x s
  | .subSSrcHalf h x => Sys2Proof.Machine.execSubSSrcHalf h x s
  | .movSSrcA a x => Sys2Proof.Machine.execMovSSrcA a x s
  | .cmpSSrcHalf h x => Sys2Proof.Machine.execCmpSSrcHalf h x s
  | .bclrS bit d => Sys2Proof.Machine.execBclrS bit d s
  | .bsetS bit d => Sys2Proof.Machine.execBsetS bit d s
  | .bnotS bit d => Sys2Proof.Machine.execBnotS bit d s
  | .btstS bit d => Sys2Proof.Machine.execBtstS bit d s
  | .jmpS d => Sys2Proof.Machine.execJmpS d s
  | .jcndShort c d => Sys2Proof.Machine.execJcndShort c d s
  | .pushBS h => Sys2Proof.Machine.execPushBS h s
  | .popBS h => Sys2Proof.Machine.execPopBS h s
  | .pushWS a => Sys2Proof.Machine.execPushWS a s
  | .popWS a => Sys2Proof.Machine.execPopWS a s
  | .movWSImmA a imm => Sys2Proof.Machine.execMovWSImmA a imm s
  | .movBSImmA a imm => Sys2Proof.Machine.execMovBSImmA a imm s
  | .incW a => Sys2Proof.Machine.execIncW a s
  | .decW a => Sys2Proof.Machine.execDecW a s
  | .addSImm imm dst => Sys2Proof.Machine.execAddSImm imm dst s
  | .subSImm imm dst => Sys2Proof.Machine.execSubSImm imm dst s
  | .andSImm imm dst => Sys2Proof.Machine.execAndSImm imm dst s
  | .orSImm imm dst => Sys2Proof.Machine.execOrSImm imm dst s
  | .incB dst => Sys2Proof.Machine.execIncB dst s
  | .decB dst => Sys2Proof.Machine.execDecB dst s
  | .movZ dst => Sys2Proof.Machine.execMovZ dst s
  | .notS dst => Sys2Proof.Machine.execNotS dst s
  | .movSImm imm dst => Sys2Proof.Machine.execMovSImm imm dst s
  | .stz imm dst => Sys2Proof.Machine.execStz imm dst s
  | .stnz imm dst => Sys2Proof.Machine.execStnz imm dst s
  | .stzx imm1 imm2 dst => Sys2Proof.Machine.execStzx imm1 imm2 dst s
  | .cmpSImm imm dst => Sys2Proof.Machine.execCmpSImm imm dst s
  | .pushm l => Sys2Proof.Machine.execPushm l s
  | .popm l => Sys2Proof.Machine.execPopm l s
  | .jmps n => Sys2Proof.Machine.execJmps n s
  | .jsrs n => Sys2Proof.Machine.execJsrs n s
  | .rts => Sys2Proof.Machine.execRts s
  | .jmpW d => Sys2Proof.Machine.execJmpW d s
  | .jsrW d => Sys2Proof.Machine.execJsrW d s
  | .into => Sys2Proof.Machine.execInto s
  | .reit => Sys2Proof.Machine.execReit s
  | .jmpA t => Sys2Proof.Machine.execJmpA t s
  | .jsrA t => Sys2Proof.Machine.execJsrA t s
  | .jmpB d => Sys2Proof.Machine.execJmpB d s
  | .und => Sys2Proof.Machine.execUnd s
  | .muluG sz src dst => Sys2Proof.Machine.execMuluG sz src dst s
  | .movG sz src dst => Sys2Proof.Machine.execMovG sz src dst s
  | .mulG sz src dst => Sys2Proof.Machine.execMulG sz src dst s
  | .tstG sz src dst => Sys2Proof.Machine.execTstG sz src dst s
  | .xorG sz src dst => Sys2Proof.Machine.execXorG sz src dst s
  | .andG sz src dst => Sys2Proof.Machine.execAndG sz src dst s
  | .orG sz src dst => Sys2Proof.Machine.execOrG sz src dst s
  | .addG sz src dst => Sys2Proof.Machine.execAddG sz src dst s
  | .subG sz src dst => Sys2Proof.Machine.execSubG sz src dst s
  | .adcG sz src dst => Sys2Proof.Machine.execAdcG sz src dst s
  | .sbbG sz src dst => Sys2Proof.Machine.execSbbG sz src dst s
  | .cmpG sz src dst => Sys2Proof.Machine.execCmpG sz src dst s
  | .addQ sz imm dst => Sys2Proof.Machine.execAddQ sz imm dst s
  | .cmpQ sz imm dst => Sys2Proof.Machine.execCmpQ sz imm dst s
  | .movQ sz imm dst => Sys2Proof.Machine.execMovQ sz imm dst s
  | .rotImm sz k dst => Sys2Proof.Machine.execRotImm sz k dst s
  | .shlImm sz k dst => Sys2Proof.Machine.execShlImm sz k dst s
  | .shaImm sz k dst => Sys2Proof.Machine.execShaImm sz k dst s
  | .adjnz sz imm dst d => Sys2Proof.Machine.execAdjnz sz imm dst d s
  | .sbjnz sz imm dst d => Sys2Proof.Machine.execSbjnz sz imm dst d s
  | .steAbs20 sz src t => Sys2Proof.Machine.execSteAbs20 sz src t s
  | .steDsp20 sz src d => Sys2Proof.Machine.execSteDsp20 sz src d s
  | .steA1A0 sz src => Sys2Proof.Machine.execSteA1A0 sz src s
  | .movToSp sz src d => Sys2Proof.Machine.execMovToSp sz src d s
  | .pushG sz src => Sys2Proof.Machine.execPushG sz src s
  | .neg sz dst => Sys2Proof.Machine.execNeg sz dst s
  | .rotR1H sz dst => Sys2Proof.Machine.execRotR1H sz dst s
  | .notG sz dst => Sys2Proof.Machine.execNotG sz dst s
  | .ldeAbs20 sz t dst => Sys2Proof.Machine.execLdeAbs20 sz t dst s
  | .ldeDsp20 sz d dst => Sys2Proof.Machine.execLdeDsp20 sz d dst s
  | .ldeA1A0 sz dst => Sys2Proof.Machine.execLdeA1A0 sz dst s
  | .movFromSp sz d dst => Sys2Proof.Machine.execMovFromSp sz d dst s
  | .movGImm imm dst => Sys2Proof.Machine.execMovGImm imm dst s
  | .popG sz dst => Sys2Proof.Machine.execPopG sz dst s
  | .shlR1H sz dst => Sys2Proof.Machine.execShlR1H sz dst s
  | .shaR1H sz dst => Sys2Proof.Machine.execShaR1H sz dst s
  | .tstImm imm dst => Sys2Proof.Machine.execTstImm imm dst s
  | .xorImm imm dst => Sys2Proof.Machine.execXorImm imm dst s
  | .andImm imm dst => Sys2Proof.Machine.execAndImm imm dst s
  | .orImm imm dst => Sys2Proof.Machine.execOrImm imm dst s
  | .addImm imm dst => Sys2Proof.Machine.execAddImm imm dst s
  | .subImm imm dst => Sys2Proof.Machine.execSubImm imm dst s
  | .adcImm imm dst => Sys2Proof.Machine.execAdcImm imm dst s
  | .sbbImm imm dst => Sys2Proof.Machine.execSbbImm imm dst s
  | .cmpImm imm dst => Sys2Proof.Machine.execCmpImm imm dst s
  | .divx sz src => Sys2Proof.Machine.execDivx sz src s
  | .rolc sz dst => Sys2Proof.Machine.execRolc sz dst s
  | .rorc sz dst => Sys2Proof.Machine.execRorc sz dst s
  | .divu sz src => Sys2Proof.Machine.execDivu sz src s
  | .div sz src => Sys2Proof.Machine.execDiv sz src s
  | .adcf sz dst => Sys2Proof.Machine.execAdcf sz dst s
  | .abs sz dst => Sys2Proof.Machine.execAbs sz dst s
  | .ldc c src => Sys2Proof.Machine.execLdc c src s
  | .stc c dst => Sys2Proof.Machine.execStc c dst s
  | .xchg sz r dst => Sys2Proof.Machine.execXchg sz r dst s
  | .movDirToR0L dir src => Sys2Proof.Machine.execMovDirToR0L dir src s
  | .movDirFromR0L dir dst => Sys2Proof.Machine.execMovDirFromR0L dir dst s
  | .muluImm imm dst => Sys2Proof.Machine.execMuluImm imm dst s
  | .mulImm imm dst => Sys2Proof.Machine.execMulImm imm dst s
  | .extsB dst => Sys2Proof.Machine.execExtsB dst s
  | .stcPc dst => Sys2Proof.Machine.execStcPc dst s
  | .jmpiA src => Sys2Proof.Machine.execJmpiA src s
  | .jsriA src => Sys2Proof.Machine.execJsriA src s
  | .jmpiW src => Sys2Proof.Machine.execJmpiW src s
  | .jsriW src => Sys2Proof.Machine.execJsriW src s
  | .pusha m => Sys2Proof.Machine.execPusha m s
  | .ldipl l => Sys2Proof.Machine.execLdipl l s
  | .addQSp imm => Sys2Proof.Machine.execAddQSp imm s
  | .jcndLong c d => Sys2Proof.Machine.execJcndLong c d s
  | .bmcndC c => Sys2Proof.Machine.execBmcndC c s
  | .divuImm imm => Sys2Proof.Machine.execDivuImm imm s
  | .divImm imm => Sys2Proof.Machine.execDivImm imm s
  | .pushImm imm => Sys2Proof.Machine.execPushImm imm s
  | .divxImm imm => Sys2Proof.Machine.execDivxImm imm s
  | .daddReg sz => Sys2Proof.Machine.execDaddReg sz s
  | .dsubReg sz => Sys2Proof.Machine.execDsubReg sz s
  | .dadcReg sz => Sys2Proof.Machine.execDadcReg sz s
  | .dsbbReg sz => Sys2Proof.Machine.execDsbbReg sz s
  | .smovf sz => Sys2Proof.Machine.execSmovf sz s
  | .smovb sz => Sys2Proof.Machine.execSmovb sz s
  | .sstr sz => Sys2Proof.Machine.execSstr sz s
  | .addImmSp imm => Sys2Proof.Machine.execAddImmSp imm s
  | .daddImm imm => Sys2Proof.Machine.execDaddImm imm s
  | .dsubImm imm => Sys2Proof.Machine.execDsubImm imm s
  | .dadcImm imm => Sys2Proof.Machine.execDadcImm imm s
  | .dsbbImm imm => Sys2Proof.Machine.execDsbbImm imm s
  | .rmpa sz => Sys2Proof.Machine.execRmpa sz s
  | .ldctx n t => Sys2Proof.Machine.execLdctx n t s
  | .stctx n t => Sys2Proof.Machine.execStctx n t s
  | .enter n => Sys2Proof.Machine.execEnter n s
  | .exitd => Sys2Proof.Machine.execExitd s
  | .extsW => Sys2Proof.Machine.execExtsW s
  | .wait => Sys2Proof.Machine.execWait s
  | .btstc x => Sys2Proof.Machine.execBtstc x s
  | .btsts x => Sys2Proof.Machine.execBtsts x s
  | .bmcnd c x => Sys2Proof.Machine.execBmcnd c x s
  | .bntst x => Sys2Proof.Machine.execBntst x s
  | .band x => Sys2Proof.Machine.execBand x s
  | .bnand x => Sys2Proof.Machine.execBnand x s
  | .bor x => Sys2Proof.Machine.execBor x s
  | .bnor x => Sys2Proof.Machine.execBnor x s
  | .bclrG x => Sys2Proof.Machine.execBclrG x s
  | .bsetG x => Sys2Proof.Machine.execBsetG x s
  | .bnotG x => Sys2Proof.Machine.execBnotG x s
  | .btstG x => Sys2Proof.Machine.execBtstG x s
  | .bxor x => Sys2Proof.Machine.execBxor x s
  | .bnxor x => Sys2Proof.Machine.execBnxor x s
  | .ldcImm c imm => Sys2Proof.Machine.execLdcImm c imm s
  | .ldintb t => Sys2Proof.Machine.execLdintb t s
  | .shlLR1H p => Sys2Proof.Machine.execShlLR1H p s
  | .shaLR1H p => Sys2Proof.Machine.execShaLR1H p s
  | .pushc c => Sys2Proof.Machine.execPushc c s
  | .popc c => Sys2Proof.Machine.execPopc c s
  | .fset f => Sys2Proof.Machine.execFset f s
  | .fclr f => Sys2Proof.Machine.execFclr f s
  | .mova m dst => Sys2Proof.Machine.execMova m dst s
  | .shlLImm p k => Sys2Proof.Machine.execShlLImm p k s
  | .shaLImm p k => Sys2Proof.Machine.execShaLImm p k s
  | .int n => Sys2Proof.Machine.execInt n s

end Sys2Proof.Machine
end

