-- ==== Sys2Proof/Machine/Step.lean ====
section
/-! DEFINITION. One step of the machine (R615): reset, or an interrupt, or one instruction. -/

namespace Sys2Proof.Machine

/-- Runs the instruction that the bytes at PC decode to (R107, R615). A byte sequence that is no instruction has no successor (R142, D1). -/
def runOne (s : State) : Host.Outcome State Fault Refusal :=
  match decode (s.fetch s.pc fetchLength) with
  | .error e => .refused (.undecodable e)
  | .ok (i, _) =>
    match exec i s.beginInstr with
    | .next t => .next (t.endInstr i s)
    | .fault f => .fault f
    | .refused r => .refused r

/-- The step of R615. After a hardware interrupt has been taken at this boundary, the first instruction of its handler runs (R614,
log 15). -/
def step (s : State) : Host.Outcome State Fault Refusal :=
  if s.resetReq then .next s.doReset
  else if s.inhibitOnce || s.boundaryTaken then runOne s
  else
    match s.winner with
    | some h => .next (s.accept h)
    | none => if s.waiting then .next s else runOne s

/-- The state with the instruction of a word of the opcode table stored where the step fetches next. Where PC is outside plain memory, as it is
after a reset with no program in memory, it is stored in the fixed vector area, which every layout has, and PC goes there (log 3). -/
def State.withFetchWord (s : State) (nbits w : Nat) : State :=
  let start := if (List.range fetchLength).all (fun k => s.layout.inImage (s.pc + BitVec.ofNat 20 k)) then s.pc else 0xFFE00
  { s.load start (tableBytes nbits w) with pc := start }

end Sys2Proof.Machine
end

