-- ==== Sys2Proof/Safety.lean ====
section
/-! DEFINITION. The words in which statements about the machine are written: the invariant of the state, the laws of the operations in plain
arithmetic, what it means that an instruction completes and that a destination receives a value, and the tables of what each instruction
may write (registers, flags, bytes of memory). Nothing here is part of the machine. -/

namespace Sys2Proof.Machine

/-- The invariant of the machine: memory is in its canonical form, and a halted CPU has neither the one-shot inhibit nor an interrupt
whose handler is about to start (R615: either of them runs an instruction next, and a halted CPU runs none, R580). -/
structure State.Inv (s : State) : Prop where
  memory : Memory.wf s.mem = true
  haltInhibit : s.waiting = true → s.inhibitOnce = false
  haltTaken : s.waiting = true → s.boundaryTaken = false

/-- The coming step runs an instruction: no reset, and either hardware interrupts are shut out at this boundary or none is acceptable
and the CPU is not halted (R615). -/
def State.runsInstr (s : State) : Prop :=
  s.resetReq = false ∧ (s.inhibitOnce = true ∨ s.boundaryTaken = true ∨ (s.winner = none ∧ s.waiting = false))

/-- The coming step may take a hardware interrupt (R615). -/
def State.boundaryOpen (s : State) : Prop :=
  s.resetReq = false ∧ s.inhibitOnce = false ∧ s.boundaryTaken = false

/-- The decoder answers this instruction itself; SBJNZ and LDINTB are second names (R462, R540). -/
def Instr.canonical : Instr → Bool
  | .sbjnz _ _ _ _ => false
  | .ldintb _ => false
  | _ => true

/-! ### Completion -/

/-- The instruction completes: it answers a next state, PC is at the next instruction (R29), and `P` holds of that state. -/
def Completes (i : Instr) (s : State) (P : State → Prop) : Prop :=
  ∃ t, exec i s = .next t ∧ t.pc = s.nextPc i ∧ P t

/-- The instruction completes with control at `a`, and `P` holds. -/
def CompletesAt (i : Instr) (s : State) (a : Addr) (P : State → Prop) : Prop :=
  ∃ t, exec i s = .next t ∧ t.pc = a ∧ P t

/-! ### Laws of the operations: flags before, destination before, source, result, flags after (R331, R332, R430) -/

abbrev Law := (n : Nat) → Flg → BitVec n → BitVec n → BitVec n → Flg → Prop

/-- S and Z of a result (R128). -/
def signZero {n : Nat} (f : Flg) (r : BitVec n) : Flg := { f with s := decide (2 ^ (n - 1) ≤ r.toNat), z := decide (r.toNat = 0) }

/-- An integer is outside the signed range of `n` bits. -/
def outsideSigned (n : Nat) (i : Int) : Bool := decide (i < -(2 ^ (n - 1) : Int) ∨ (2 ^ (n - 1) : Int) - 1 < i)

/-- R331: `result`, O, S, Z and C of an addition with carry in. -/
def Adds (carry : Flg → Bool) : Law := fun n f d x r g =>
  r.toNat = (d.toNat + x.toNat + (carry f).toNat) % 2 ^ n ∧
  g = { signZero f r with
    o := outsideSigned n (d.toInt + x.toInt + (carry f).toNat)
    c := decide (2 ^ n ≤ d.toNat + x.toNat + (carry f).toNat) }

/-- R332: `result`, O, S, Z and C of a subtraction with borrow in; C is "no borrow". -/
def Subtracts (borrow : Flg → Bool) : Law := fun n f d x r g =>
  (r.toNat : Int) = ((d.toNat : Int) - x.toNat - (borrow f).toNat) % (2 ^ n : Int) ∧
  g = { signZero f r with
    o := outsideSigned n (d.toInt - x.toInt - (borrow f).toNat)
    c := decide (x.toNat + (borrow f).toNat ≤ d.toNat) }

/-- ADCF: the source is 0 (R336). -/
def AddsCarry : Law := fun n f d _ r g => Adds Flg.c n f d 0 r g

/-- NEG: the destination from 0 (R360). -/
def Negates : Law := fun n f d _ r g => Subtracts (fun _ => false) n f 0 d r g

/-- A bitwise operation, S and Z (R430). -/
def Bitwise (op : Bool → Bool → Bool) : Law := fun n f d x r g =>
  (∀ k, k < n → r.getLsbD k = op (x.getLsbD k) (d.getLsbD k)) ∧ g = signZero f r

/-- INC and DEC: only S and Z change (R354, R358). -/
def Counts (by1 : Int) : Law := fun n f d _ r g =>
  (r.toNat : Int) = ((d.toNat : Int) + by1) % (2 ^ n : Int) ∧ g = signZero f r

/-- ABS: C is free (R333). -/
def Absolute : Law := fun n f d _ r g =>
  r.toNat = d.toInt.natAbs ∧ g = { signZero f r with o := decide (d.toInt = -(2 ^ (n - 1) : Int)), c := g.c }

/-- MOV: the source, S and Z (R201). -/
def Moves : Law := fun _ f _ x r g => r = x ∧ g = signZero f r

/-- A transfer that changes no flag. -/
def Copies : Law := fun _ f _ x r g => r = x ∧ g = f

/-- ADJNZ's addition: no flag changes (R461). -/
def AddsQuietly : Law := fun n f d x r g => r.toNat = (d.toNat + x.toNat) % 2 ^ n ∧ g = f

/-- ROLC (R301). -/
def RotatesCarryLeft : Law := fun n f d _ r g =>
  r.toNat = (2 * d.toNat + f.c.toNat) % 2 ^ n ∧ g = { signZero f r with c := decide (2 ^ (n - 1) ≤ d.toNat) }

/-- RORC (R302). -/
def RotatesCarryRight : Law := fun n f d _ r g =>
  r.toNat = d.toNat / 2 + 2 ^ (n - 1) * f.c.toNat ∧ g = { signZero f r with c := decide (d.toNat % 2 = 1) }

/-- The result of a shift or rotate by `m` places and the bit moved out last, in closed form (R300, R303, R305, R309). -/
def ShiftResult (k : ShiftKind) (right : Bool) (m : Nat) {n : Nat} (d r : BitVec n) (out : Bool) : Prop :=
  match k, right with
  | .rot, false => (∀ j, j < n → r.getLsbD ((j + m) % n) = d.getLsbD j) ∧ out = r.getLsbD 0
  | .rot, true => (∀ j, j < n → r.getLsbD j = d.getLsbD ((j + m) % n)) ∧ out = r.getLsbD (n - 1)
  | .shl, false | .sha, false => r.toNat = d.toNat * 2 ^ m % 2 ^ n ∧ out = d.getLsbD (n - m)
  | .shl, true => r.toNat = d.toNat / 2 ^ m ∧ out = d.getLsbD (m - 1)
  | .sha, true => r.toInt = d.toInt / (2 ^ m : Int) ∧ out = d.getLsbD (m - 1)

/-- ROT, SHA and SHL of `.B` and `.W`: S, Z, C, and for SHA O (R303, R305, R309). -/
def Shifts (k : ShiftKind) (right : Bool) (m : Nat) : Law := fun n f d _ r g =>
  ∃ out, ShiftResult k right m d r out ∧
    g = { signZero f r with c := out, o := if k = .sha then r.getLsbD (n - 1) != d.getLsbD (n - 1) else f.o }

/-- A count out of range: the result and the flags S, Z, C (SHA: O too) are free (R300, I2). -/
def ShiftsFreely (k : ShiftKind) : Law := fun _ f _ _ _ g =>
  g = { f with s := g.s, z := g.z, c := g.c, o := if k = .sha then g.o else f.o }

/-- The decimal digit `k` of a packed pattern (R347). -/
def digit {n : Nat} (x : BitVec n) (k : Nat) : Nat := x.toNat / 16 ^ k % 16

/-- Every digit of the pattern is a decimal digit. -/
def IsBcd {n : Nat} (x : BitVec n) : Prop := ∀ k, k < n / 4 → digit x k < 10

/-- `dec(x)` of R347. -/
def bcdValue {n : Nat} (x : BitVec n) : Nat := ((List.range (n / 4)).map fun k => digit x k * 10 ^ k).sum

/-- A decimal instruction: on packed-BCD operands the exact result modulo 10^(n/4), S, Z and C; else the result, S, Z and C are free (R347 to
R351, U6). -/
def ComputesDecimal (op : Flg → Int → Int → Int) (carry : Nat → Int → Bool) : Law := fun n f d x r g =>
  (IsBcd d → IsBcd x →
    IsBcd r ∧ (bcdValue r : Int) = op f (bcdValue d) (bcdValue x) % (10 ^ (n / 4) : Int) ∧
    g = { signZero f r with c := carry (n / 4) (op f (bcdValue d) (bcdValue x)) }) ∧
  g = { f with s := g.s, z := g.z, c := g.c }

/-! ### Destinations -/

/-- The bytes of a 32-bit datum, low byte first (R63). -/
def longBytes (v : Long) : List Byte := wordBytes (v.extractLsb' 0 16) ++ wordBytes (v.extractLsb' 16 16)

/-- The addresses of `n` bytes from `a` on (R63, D18). -/
def bytesFrom (a : Addr) (n : Nat) : List Addr := (List.range n).map fun k => a + BitVec.ofNat 20 k

/-- Writable memory holds the byte; of any other address this says nothing (R61, R71). -/
def MemIs (t : State) (a : Addr) (v : Byte) : Prop := t.layout.isWritable a = true → t.peek a = v

/-- The accesses that the platform sees when `bs` is stored from `a` on, newest first: the bytes outside writable memory (R71, R72). -/
def deviceWrites (l : Layout) : Addr → List Byte → List PlatformAccess
  | _, [] => []
  | a, v :: t => deviceWrites l (a + 1) t ++ (if l.isWritable a then [] else [.write a v])

/-- `bs` has been stored from `a` on: writable memory holds the bytes, and those outside it are the newest accesses of the platform. -/
def Stored (t : State) (a : Addr) (bs : List Byte) : Prop :=
  (∀ k v, bs[k]? = some v → MemIs t (a + BitVec.ofNat 20 k) v) ∧ deviceWrites t.layout a bs <+: t.platformLog

/-- A `.B` operation with source value `x`, its destination read in `u`: 8 bits, or 16 on the zero-extended source if the destination is A0
or A1 (R118, R330 a). -/
def Updates8 (law : Law) (x : Byte) (u t : State) : Operand → Prop
  | .dreg r => law 8 u.flg (u.byte r) x (t.byte r) t.flg
  | .areg a => law 16 u.flg (u.areg a) (x.zeroExtend 16) (t.areg a) t.flg
  | .mem m => ∃ r : Byte, law 8 u.flg (readByte u (u.ea m)).1 x r t.flg ∧ Stored t (u.ea m) [r]

/-- A `.W` operation with source value `x`. -/
def Updates16 (law : Law) (x : Word) (u t : State) : Operand → Prop
  | .dreg r => law 16 u.flg (u.word r) x (t.word r) t.flg
  | .areg a => law 16 u.flg (u.areg a) x (t.areg a) t.flg
  | .mem m => ∃ r : Word, law 16 u.flg (read16 u (u.ea m)).1 x r t.flg ∧ Stored t (u.ea m) (wordBytes r)

/-- A two-operand instruction: the source is read first (R80). -/
def UpdatesFrom (law : Law) (sz : Size) (src dst : Operand) (s t : State) : Prop :=
  match sz with
  | .b => Updates8 law (readSrc8 s src).1 (readSrc8 s src).2 t dst
  | .w => Updates16 law (readSrc16 s src).1 (readSrc16 s src).2 t dst

/-- An instruction with an immediate source. -/
def UpdatesImm (law : Law) (imm : Imm) (dst : Operand) (s t : State) : Prop :=
  match imm with
  | .b v => Updates8 law v s t dst
  | .w v => Updates16 law v s t dst

/-- A 4-bit immediate -8 to +7 as an immediate of the instruction's size (R108 a). -/
def quick (sz : Size) (v : BitVec 4) : Imm :=
  match sz with
  | .b => .b (BitVec.ofInt 8 v.toInt)
  | .w => .w (BitVec.ofInt 16 v.toInt)

/-- A one-operand instruction; its law does not look at the source. -/
def UpdatesOne (law : Law) (sz : Size) (dst : Operand) (s t : State) : Prop := UpdatesImm law (quick sz 0) dst s t

/-- A comparison: some result obeys the law, and nothing is stored; what the destination reads in `u` is the left operand. -/
def Compares8 (law : Law) (x : Byte) (u t : State) : Operand → Prop
  | .dreg r => ∃ v : Byte, law 8 u.flg (u.byte r) x v t.flg
  | .areg a => ∃ v : Word, law 16 u.flg (u.areg a) (x.zeroExtend 16) v t.flg
  | .mem m => ∃ v : Byte, law 8 u.flg (readByte u (u.ea m)).1 x v t.flg

def Compares16 (law : Law) (x : Word) (u t : State) : Operand → Prop
  | .dreg r => ∃ v : Word, law 16 u.flg (u.word r) x v t.flg
  | .areg a => ∃ v : Word, law 16 u.flg (u.areg a) x v t.flg
  | .mem m => ∃ v : Word, law 16 u.flg (read16 u (u.ea m)).1 x v t.flg

def ComparesFrom (law : Law) (sz : Size) (src dst : Operand) (s t : State) : Prop :=
  match sz with
  | .b => Compares8 law (readSrc8 s src).1 (readSrc8 s src).2 t dst
  | .w => Compares16 law (readSrc16 s src).1 (readSrc16 s src).2 t dst

/-- No register but FLG and no byte of memory has changed. -/
def Untouched (s t : State) : Prop :=
  t.bank0 = s.bank0 ∧ t.bank1 = s.bank1 ∧ t.sb = s.sb ∧ t.usp = s.usp ∧ t.isp = s.isp ∧ t.intb = s.intb ∧ ∀ a, t.peek a = s.peek a

def ComparesImm (law : Law) (imm : Imm) (dst : Operand) (s t : State) : Prop :=
  match imm with
  | .b v => Compares8 law v s t dst
  | .w v => Compares16 law v s t dst

/-- The designated bit becomes `f` of its old value, the other bits of the register or of the byte keep theirs (R260). -/
def PutsBit (f : Bool → Bool) (s t : State) : BitPlace → Prop
  | .dreg r k => ∀ j, j < 16 → (t.word r).getLsbD j = if j = k.toNat then f ((s.word r).getLsbD j) else (s.word r).getLsbD j
  | .areg a k => ∀ j, j < 16 → (t.areg a).getLsbD j = if j = k.toNat then f ((s.areg a).getLsbD j) else (s.areg a).getLsbD j
  | .mem a k => ∃ v : Byte, Stored t a [v] ∧
      ∀ j, j < 8 → v.getLsbD j = if j = k.toNat then f ((readByte s a).1.getLsbD j) else (readByte s a).1.getLsbD j

/-! ### Registers and flags, named one by one -/

/-- The registers of R20, R0 and R1 by halves (R21), INTB by its two parts (R30). -/
inductive Reg where
  | r0l
  | r0h
  | r1l
  | r1h
  | r2
  | r3
  | a0
  | a1
  | fb
  | sb
  | usp
  | isp
  | intbl
  | intbh
deriving DecidableEq, Repr

/-- Bank 0 or bank 1. -/
def State.bankOf (s : State) (b : Bool) : Bank := if b then s.bank1 else s.bank0

/-- What a register holds, in bank `b` for the banked ones. -/
def State.reg (s : State) (b : Bool) : Reg → Nat
  | .r0l => (s.bankOf b).r0.toNat % 256
  | .r0h => (s.bankOf b).r0.toNat / 256
  | .r1l => (s.bankOf b).r1.toNat % 256
  | .r1h => (s.bankOf b).r1.toNat / 256
  | .r2 => (s.bankOf b).r2.toNat
  | .r3 => (s.bankOf b).r3.toNat
  | .a0 => (s.bankOf b).a0.toNat
  | .a1 => (s.bankOf b).a1.toNat
  | .fb => (s.bankOf b).fb.toNat
  | .sb => s.sb.toNat
  | .usp => s.usp.toNat
  | .isp => s.isp.toNat
  | .intbl => s.intb.toNat % 65536
  | .intbh => s.intb.toNat / 65536

/-- A flag of FLG by its name. -/
def Flg.flag (g : Flg) : Flag → Bool
  | .c => g.c
  | .d => g.d
  | .z => g.z
  | .s => g.s
  | .b => g.b
  | .o => g.o
  | .i => g.i
  | .u => g.u

/-- The stack pointer that U selects (R31). -/
def State.spReg (s : State) : Reg := if s.flg.u then .usp else .isp

/-! ### What each instruction may write, from the operation lines and flag tables of its rule (R12) -/

def DReg.byteReg : DReg → Reg
  | .r0lR0 => .r0l
  | .r0hR1 => .r0h
  | .r1lR2 => .r1l
  | .r1hR3 => .r1h

def DReg.wordRegs : DReg → List Reg
  | .r0lR0 => [.r0l, .r0h]
  | .r0hR1 => [.r1l, .r1h]
  | .r1lR2 => [.r2]
  | .r1hR3 => [.r3]

def AReg.reg : AReg → Reg
  | .a0 => .a0
  | .a1 => .a1

def Half.reg : Half → Reg
  | .r0l => .r0l
  | .r0h => .r0h

def Pair.regs : Pair → List Reg
  | .r2r0 => [.r2, .r0l, .r0h]
  | .r3r1 => [.r3, .r1l, .r1h]

def APair.regs : APair → List Reg
  | .r2r0 => [.r2, .r0l, .r0h]
  | .r3r1 => [.r3, .r1l, .r1h]
  | .a1a0 => [.a1, .a0]

/-- The registers of a destination. -/
def Operand.regs (sz : Size) : Operand → List Reg
  | .dreg r =>
    match sz with
    | .b => [DReg.byteReg r]
    | .w => DReg.wordRegs r
  | .areg a => [AReg.reg a]
  | .mem _ => []

def ShortDest.regs : ShortDest → List Reg
  | .half h => [Half.reg h]
  | .mem _ => []

def BitOperand.regs : BitOperand → List Reg
  | .dreg r _ => DReg.wordRegs r
  | .areg a _ => [AReg.reg a]
  | _ => []

/-- The registers a product goes to (the table of R407). -/
def mulRegs (sz : Size) : Operand → List Reg
  | .dreg .r0lR0 => if sz = .b then [.r0l, .r0h] else [.r0l, .r0h, .r2]
  | .dreg .r0hR1 => if sz = .b then [] else [.r1l, .r1h, .r3]
  | .dreg .r1lR2 => if sz = .b then [.r1l, .r1h] else []
  | .dreg .r1hR3 => []
  | .areg .a0 => if sz = .b then [.a0] else [.a0, .a1]
  | .areg .a1 => if sz = .b then [.a1] else []
  | .mem _ => []

/-- Quotient and remainder (R400). -/
def divRegs (sz : Size) : List Reg := if sz = .b then [.r0l, .r0h] else [.r0l, .r0h, .r2]

/-- The register of a control register code (R530). -/
def State.cregRegs (s : State) : CReg → List Reg
  | .intbl => [.intbl]
  | .intbh => [.intbh]
  | .flg => []
  | .isp => [.isp]
  | .sp => [s.spReg]
  | .sb => [.sb]
  | .fb => [.fb]

/-- The registers of a register list. -/
def RegList.regs (l : RegList) : List Reg :=
  (if l.r0 then [.r0l, .r0h] else []) ++ (if l.r1 then [.r1l, .r1h] else []) ++ (if l.r2 then [.r2] else []) ++
  (if l.r3 then [.r3] else []) ++ (if l.a0 then [.a0] else []) ++ (if l.a1 then [.a1] else []) ++
  (if l.sb then [.sb] else []) ++ (if l.fb then [.fb] else [])

/-- The registers an instruction may write when it runs from `s`: its destinations, and the stack pointer, the repeat registers and the frame
base where its rule updates them. The banked ones are those of the bank that B selects in `s`. -/
def Instr.writes (s : State) : Instr → List Reg
  | .brk | .und => [.isp]
  | .into => if s.flg.o then [.isp] else []
  | .int n => if n.toNat ≤ 31 then [.isp] else [s.spReg]
  | .reit | .rts | .jsrs _ | .jsrW _ | .jsrA _ | .jsriA _ | .jsriW _ => [s.spReg]
  | .movSHalfDest _ _ | .nop | .cmpSSrcHalf _ _ | .bclrS _ _ | .bsetS _ _ | .bnotS _ _ | .btstS _ _ | .jmpS _
  | .jcndShort _ _ | .cmpSImm _ _ | .jmps _ | .jmpW _ | .jmpA _ | .jmpB _ | .tstG _ _ _ | .cmpG _ _ _ | .cmpQ _ _ _
  | .steAbs20 _ _ _ | .steDsp20 _ _ _ | .steA1A0 _ _ | .movToSp _ _ _ | .tstImm _ _ | .cmpImm _ _ | .jmpiA _ | .jmpiW _
  | .ldipl _ | .jcndLong _ _ | .bmcndC _ | .wait | .bntst _ | .band _ | .bnand _ | .bor _ | .bnor _ | .btstG _
  | .bxor _ | .bnxor _ | .fset _ | .fclr _ => []
  | .movSSrcHalf h _ | .andSSrcHalf h _ | .orSSrcHalf h _ | .addSSrcHalf h _ | .subSSrcHalf h _ => [Half.reg h]
  | .movSSrcA a _ | .movWSImmA a _ | .movBSImmA a _ | .incW a | .decW a => [AReg.reg a]
  | .pushBS _ | .pushWS _ | .pushm _ | .pushG _ _ | .pushImm _ | .pusha _ | .pushc _ | .addQSp _ | .addImmSp _ => [s.spReg]
  | .popBS h => [s.spReg, Half.reg h]
  | .popWS a => [s.spReg, AReg.reg a]
  | .addSImm _ d | .subSImm _ d | .andSImm _ d | .orSImm _ d | .incB d | .decB d | .movZ d | .notS d | .movSImm _ d
  | .stz _ d | .stnz _ d | .stzx _ _ d => ShortDest.regs d
  | .popm l => s.spReg :: RegList.regs l
  | .mulG sz _ d | .muluG sz _ d => mulRegs sz d
  | .mulImm v d | .muluImm v d => mulRegs v.size d
  | .movG sz _ d | .xorG sz _ d | .andG sz _ d | .orG sz _ d | .addG sz _ d | .subG sz _ d | .adcG sz _ d | .sbbG sz _ d
  | .addQ sz _ d | .movQ sz _ d | .rotImm sz _ d | .shlImm sz _ d | .shaImm sz _ d | .adjnz sz _ d _ | .sbjnz sz _ d _
  | .neg sz d | .rotR1H sz d | .notG sz d | .ldeAbs20 sz _ d | .ldeDsp20 sz _ d | .ldeA1A0 sz d | .movFromSp sz _ d
  | .shlR1H sz d | .shaR1H sz d | .rolc sz d | .rorc sz d | .adcf sz d | .abs sz d => Operand.regs sz d
  | .popG sz d => s.spReg :: Operand.regs sz d
  | .movGImm v d | .xorImm v d | .andImm v d | .orImm v d | .addImm v d | .subImm v d | .adcImm v d | .sbbImm v d =>
    Operand.regs v.size d
  | .divx sz _ | .divu sz _ | .div sz _ => divRegs sz
  | .divuImm v | .divImm v | .divxImm v => divRegs v.size
  | .ldc c _ | .ldcImm c _ => s.cregRegs c
  | .popc c => s.spReg :: s.cregRegs c
  | .stc _ d => Operand.regs .w d
  | .xchg sz r d => Operand.regs sz (.dreg r) ++ Operand.regs sz d
  | .movDirToR0L _ _ => [.r0l]
  | .movDirFromR0L _ d => Operand.regs .b d
  | .extsB d => mulRegs .b d
  | .stcPc (.pair p) => APair.regs p
  | .stcPc (.mem _) => []
  | .daddReg sz | .dsubReg sz | .dadcReg sz | .dsbbReg sz => Operand.regs sz (.dreg .r0lR0)
  | .daddImm v | .dsubImm v | .dadcImm v | .dsbbImm v => Operand.regs v.size (.dreg .r0lR0)
  | .smovf _ | .smovb _ => if s.word .r1hR3 = 0 then [] else [.r3, .a0, .a1, .r1h]
  | .sstr _ => if s.word .r1hR3 = 0 then [] else [.r3, .a1]
  | .rmpa sz => if s.word .r1hR3 = 0 then [] else [.r3, .a0, .a1] ++ divRegs sz
  | .ldctx n t => s.spReg :: RegList.regs (readContext s n t).1.1
  | .stctx _ _ => [s.spReg]
  | .enter _ | .exitd => [s.spReg, .fb]
  | .extsW => [.r2]
  | .btstc x | .btsts x | .bmcnd _ x | .bclrG x | .bsetG x | .bnotG x => BitOperand.regs x
  | .ldintb _ => [.intbl, .intbh]
  | .shlLR1H p | .shaLR1H p | .shlLImm p _ | .shaLImm p _ => Pair.regs p
  | .mova _ (.dreg r) => DReg.wordRegs r
  | .mova _ (.areg a) => [AReg.reg a]

/-- The eight flags. -/
def allFlags : List Flag := [.c, .d, .z, .s, .b, .o, .i, .u]

/-- The flags of LDC and POPC: all if the destination is FLG, else none (R535, R553). -/
def CReg.flags : CReg → List Flag
  | .flg => allFlags
  | _ => []

/-- The flags an instruction may change: the columns its flag table marks (R12). -/
def Instr.flags (s : State) : Instr → List Flag
  | .addSSrcHalf _ _ | .subSSrcHalf _ _ | .cmpSSrcHalf _ _ | .addSImm _ _ | .subSImm _ _ | .cmpSImm _ _ | .addG _ _ _ | .subG _ _ _
  | .adcG _ _ _ | .sbbG _ _ _ | .cmpG _ _ _ | .addQ _ _ _ | .cmpQ _ _ _ | .neg _ _ | .addImm _ _ | .subImm _ _ | .adcImm _ _
  | .sbbImm _ _ | .cmpImm _ _ | .adcf _ _ | .abs _ _ | .addQSp _ | .addImmSp _ | .shaImm _ _ _ => [.o, .s, .z, .c]
  | .shaR1H _ _ => if s.byte .r1hR3 = 0 then [] else [.o, .s, .z, .c]
  | .rotImm _ _ _ | .shlImm _ _ _ | .rolc _ _ | .rorc _ _ | .shlLImm _ _ | .shaLImm _ _
  | .daddReg _ | .dsubReg _ | .dadcReg _ | .dsbbReg _ | .daddImm _ | .dsubImm _ | .dadcImm _ | .dsbbImm _ => [.s, .z, .c]
  | .rotR1H _ _ | .shlR1H _ _ | .shlLR1H _ | .shaLR1H _ => if s.byte .r1hR3 = 0 then [] else [.s, .z, .c]
  | .movSHalfDest _ _ | .movSSrcHalf _ _ | .andSSrcHalf _ _ | .orSSrcHalf _ _ | .movSSrcA _ _ | .movWSImmA _ _ | .movBSImmA _ _
  | .incW _ | .decW _ | .andSImm _ _ | .orSImm _ _ | .incB _ | .decB _ | .movZ _ | .notS _ | .movSImm _ _ | .movG _ _ _ | .tstG _ _ _
  | .xorG _ _ _ | .andG _ _ _ | .orG _ _ _ | .movQ _ _ _ | .steAbs20 _ _ _ | .steDsp20 _ _ _ | .steA1A0 _ _ | .movToSp _ _ _
  | .notG _ _ | .ldeAbs20 _ _ _ | .ldeDsp20 _ _ _ | .ldeA1A0 _ _ | .movFromSp _ _ _ | .movGImm _ _ | .tstImm _ _ | .xorImm _ _
  | .andImm _ _ | .orImm _ _ | .extsB _ => [.s, .z]
  | .divx _ _ | .divu _ _ | .div _ _ | .divuImm _ | .divImm _ | .divxImm _ => [.o]
  | .rmpa _ => if s.word .r1hR3 = 0 then [] else [.o]
  | .btstS _ _ | .btstc _ | .btsts _ | .bntst _ | .btstG _ => [.z, .c]
  | .band _ | .bnand _ | .bor _ | .bnor _ | .bxor _ | .bnxor _ | .bmcndC _ => [.c]
  | .brk | .und => [.i, .d, .u]
  | .into => if s.flg.o then [.i, .d, .u] else []
  | .int n => if n.toNat ≤ 31 then [.i, .d, .u] else [.i, .d]
  | .reit => allFlags
  | .ldc c _ | .ldcImm c _ | .popc c => CReg.flags c
  | .fset f | .fclr f => [f]
  | .nop | .bclrS _ _ | .bsetS _ _ | .bnotS _ _ | .jmpS _ | .jcndShort _ _ | .pushBS _ | .popBS _ | .pushWS _ | .popWS _
  | .stz _ _ | .stnz _ _ | .stzx _ _ _ | .pushm _ | .popm _ | .jmps _ | .jsrs _ | .rts | .jmpW _ | .jsrW _ | .jmpA _ | .jsrA _
  | .jmpB _ | .muluG _ _ _ | .mulG _ _ _ | .adjnz _ _ _ _ | .sbjnz _ _ _ _ | .pushG _ _ | .popG _ _ | .stc _ _ | .xchg _ _ _
  | .movDirToR0L _ _ | .movDirFromR0L _ _ | .muluImm _ _ | .mulImm _ _ | .stcPc _ | .jmpiA _ | .jsriA _ | .jmpiW _ | .jsriW _
  | .pusha _ | .ldipl _ | .jcndLong _ _ | .pushImm _ | .smovf _ | .smovb _ | .sstr _ | .ldctx _ _ | .stctx _ _ | .enter _ | .exitd
  | .extsW | .wait | .bmcnd _ _ | .bclrG _ | .bsetG _ | .bnotG _ | .ldintb _ | .pushc _ | .mova _ _ => []

/-- The instructions that may change IPL: LDIPL, REIT, and LDC and POPC with FLG (R541, R560, R535, R553). -/
def Instr.setsIpl : Instr → Bool
  | .ldipl _ | .reit => true
  | .ldc c _ | .ldcImm c _ | .popc c => c == .flg
  | _ => false

/-- The bytes of a memory destination. -/
def State.operandBytes (s : State) (n : Nat) : Operand → List Addr
  | .mem m => bytesFrom (s.ea m) n
  | .dreg _ => []
  | .areg _ => []

/-- The byte of a short memory destination. -/
def State.shortBytes (s : State) (d : ShortDest) : List Addr := s.operandBytes 1 (ShortDest.operand d)

/-- How many bytes an operand of this size has. -/
def sizeBytes : Size → Nat
  | .b => 1
  | .w => 2

/-- The byte that holds a bit in memory. -/
def BitPlace.bytes : BitPlace → List Addr
  | .mem a _ => [a]
  | .dreg _ _ => []
  | .areg _ _ => []

/-- The bytes of a word pushed from stack pointer `p` (R70). -/
def wordBelow (p : Word) : List Addr := bytesFrom (zext20 (p - 2)) 2

/-- The bytes of a return address pushed from stack pointer `p` (R460). -/
def returnBelow (p : Word) : List Addr := zext20 (p - 1) :: bytesFrom (zext20 (p - 3)) 2

/-- The bytes of an interrupt frame pushed from stack pointer `p` (R621). -/
def frameBelow (p : Word) : List Addr := wordBelow p ++ wordBelow (p - 2)

/-- The bytes of `k` words pushed from stack pointer `p`. -/
def wordsBelow (p : Word) : Nat → List Addr
  | 0 => []
  | k + 1 => wordBelow p ++ wordsBelow (p - 2) k

/-- How many registers a list selects. -/
def RegList.count (l : RegList) : Nat :=
  l.r0.toNat + l.r1.toNat + l.r2.toNat + l.r3.toNat + l.a0.toNat + l.a1.toNat + l.sb.toNat + l.fb.toNat

/-- The bytes an instruction stores to when it runs from `s`, each address computed as the instruction's rule computes it. -/
def Instr.stores (s : State) : Instr → List Addr
  | .brk | .und => frameBelow s.isp
  | .into => if s.flg.o then frameBelow s.isp else []
  | .int n => frameBelow (if n.toNat ≤ 31 then s.isp else s.sp)
  | .movSHalfDest _ m => s.operandBytes 1 (ShortMem.operand m)
  | .bclrS k d | .bsetS k d | .bnotS k d => (s.bitPlaceS k d).bytes
  | .pushBS _ => [zext20 (s.sp - 1)]
  | .pushWS _ | .pusha _ | .pushc _ | .enter _ => wordBelow s.sp
  | .pushG sz _ => bytesFrom (zext20 (s.sp - BitVec.ofNat 16 (sizeBytes sz))) (sizeBytes sz)
  | .pushImm v => bytesFrom (zext20 (s.sp - BitVec.ofNat 16 (sizeBytes v.size))) (sizeBytes v.size)
  | .addSImm _ d | .subSImm _ d | .andSImm _ d | .orSImm _ d | .incB d | .decB d | .movZ d | .notS d | .movSImm _ d
  | .stzx _ _ d => s.shortBytes d
  | .stz _ d => if s.flg.z then s.shortBytes d else []
  | .stnz _ d => if s.flg.z then [] else s.shortBytes d
  | .pushm l => wordsBelow s.sp (RegList.count l)
  | .stctx n t => wordsBelow s.sp (RegList.count (readContext s n t).1.1)
  | .jsrs _ | .jsrW _ | .jsrA _ | .jsriA _ | .jsriW _ => returnBelow s.sp
  | .mulG sz _ d | .muluG sz _ d => s.operandBytes (2 * (sizeBytes sz)) d
  | .mulImm v d | .muluImm v d => s.operandBytes (2 * (sizeBytes v.size)) d
  | .movG sz _ d | .xorG sz _ d | .andG sz _ d | .orG sz _ d | .addG sz _ d | .subG sz _ d | .adcG sz _ d | .sbbG sz _ d
  | .addQ sz _ d | .movQ sz _ d | .rotImm sz _ d | .shlImm sz _ d | .shaImm sz _ d | .adjnz sz _ d _ | .sbjnz sz _ d _
  | .neg sz d | .notG sz d | .ldeAbs20 sz _ d | .ldeDsp20 sz _ d | .ldeA1A0 sz d | .movFromSp sz _ d | .popG sz d
  | .rolc sz d | .rorc sz d | .adcf sz d | .abs sz d | .xchg sz _ d => s.operandBytes (sizeBytes sz) d
  | .rotR1H sz d | .shlR1H sz d | .shaR1H sz d => if s.byte .r1hR3 = 0 then [] else s.operandBytes (sizeBytes sz) d
  | .movGImm v d | .xorImm v d | .andImm v d | .orImm v d | .addImm v d | .subImm v d | .adcImm v d | .sbbImm v d =>
    s.operandBytes (sizeBytes v.size) d
  | .stc _ d | .extsB d => s.operandBytes 2 d
  | .movDirFromR0L _ d => s.operandBytes 1 d
  | .steAbs20 sz _ t => bytesFrom t (sizeBytes sz)
  | .steDsp20 sz _ d => bytesFrom (s.eaDsp20 .a0 d) (sizeBytes sz)
  | .steA1A0 sz _ => bytesFrom s.eaA1A0 (sizeBytes sz)
  | .movToSp sz _ d => bytesFrom (s.eaSp d) (sizeBytes sz)
  | .stcPc (.mem m) => bytesFrom (s.ea m) 3
  | .stcPc (.pair _) => []
  | .smovf sz | .smovb sz | .sstr sz => if s.word .r1hR3 = 0 then [] else bytesFrom (zext20 (s.areg .a1)) (sizeBytes sz)
  | .btstc x | .btsts x | .bmcnd _ x | .bclrG x | .bsetG x | .bnotG x => (s.bitPlace x).bytes
  | .nop | .movSSrcHalf _ _ | .andSSrcHalf _ _ | .orSSrcHalf _ _ | .addSSrcHalf _ _ | .subSSrcHalf _ _ | .movSSrcA _ _
  | .cmpSSrcHalf _ _ | .btstS _ _ | .jmpS _ | .jcndShort _ _ | .popBS _ | .popWS _ | .movWSImmA _ _ | .movBSImmA _ _ | .incW _
  | .decW _ | .cmpSImm _ _ | .popm _ | .jmps _ | .rts | .jmpW _ | .reit | .jmpA _ | .jmpB _ | .tstG _ _ _ | .cmpG _ _ _
  | .cmpQ _ _ _ | .tstImm _ _ | .cmpImm _ _ | .divx _ _ | .divu _ _ | .div _ _ | .ldc _ _ | .movDirToR0L _ _ | .jmpiA _ | .jmpiW _
  | .ldipl _ | .addQSp _ | .jcndLong _ _ | .bmcndC _ | .divuImm _ | .divImm _ | .divxImm _ | .daddReg _ | .dsubReg _ | .dadcReg _
  | .dsbbReg _ | .addImmSp _ | .daddImm _ | .dsubImm _ | .dadcImm _ | .dsbbImm _ | .rmpa _ | .ldctx _ _ | .exitd | .extsW | .wait
  | .bntst _ | .band _ | .bnand _ | .bor _ | .bnor _ | .btstG _ | .bxor _ | .bnxor _ | .ldcImm _ _ | .ldintb _ | .shlLR1H _
  | .shaLR1H _ | .popc _ | .fset _ | .fclr _ | .mova _ _ | .shlLImm _ _ | .shaLImm _ _ => []

/-! ### Register lists, control registers, frames -/

/-- A register that PUSHM and POPM can select. -/
inductive Listed where
  | word (r : DReg)
  | areg (a : AReg)
  | sb
  | fb
deriving DecidableEq, Repr

def State.listed (s : State) : Listed → Word
  | .word r => s.word r
  | .areg a => s.areg a
  | .sb => s.sb
  | .fb => s.fb

/-- The selected registers in the order of rising addresses: R0, R1, R2, R3, A0, A1, SB, FB (R220, R226). -/
def RegList.selected (l : RegList) : List Listed :=
  (if l.r0 then [.word .r0lR0] else []) ++ (if l.r1 then [.word .r0hR1] else []) ++ (if l.r2 then [.word .r1lR2] else []) ++
  (if l.r3 then [.word .r1hR3] else []) ++ (if l.a0 then [.areg .a0] else []) ++ (if l.a1 then [.areg .a1] else []) ++
  (if l.sb then [.sb] else []) ++ (if l.fb then [.fb] else [])

/-- The selected registers lie in memory as words from `p` on, in that order. -/
def HoldsRegs (s t : State) (l : RegList) (p : Word) : Prop :=
  ∀ j r, (RegList.selected l)[j]? = some r →
    MemIs t (zext20 (p + BitVec.ofNat 16 (2 * j))) (loByte (s.listed r)) ∧
    MemIs t (zext20 (p + BitVec.ofNat 16 (2 * j)) + 1) (hiByte (s.listed r))

/-- The selected registers of `t` hold the words that plain memory of `s` has from `p` on, in that order. -/
def LoadsRegs (s t : State) (l : RegList) (p : Word) : Prop :=
  ∀ j r, (RegList.selected l)[j]? = some r →
    s.layout.inImage (zext20 (p + BitVec.ofNat 16 (2 * j))) = true →
    s.layout.inImage (zext20 (p + BitVec.ofNat 16 (2 * j)) + 1) = true →
    t.listed r = s.peek (zext20 (p + BitVec.ofNat 16 (2 * j)) + 1) ++ s.peek (zext20 (p + BitVec.ofNat 16 (2 * j)))

/-- A control register has been loaded with `v` (the table of R530): INTBH keeps four bits, FLG its eleven. -/
def LoadsCreg (s t : State) (v : Word) : CReg → Prop
  | .intbl => t.intb.toNat = s.intb.toNat / 65536 * 65536 + v.toNat
  | .intbh => t.intb.toNat = v.toNat % 16 * 65536 + s.intb.toNat % 65536
  | .flg => Flg.toWord t.flg = v &&& 0x70FF
  | .isp => t.isp = v
  | .sp => if s.flg.u then t.usp = v else t.isp = v
  | .sb => t.sb = v
  | .fb => t.fb = v

/-- What a control register reads as (the table of R530). -/
def cregValue (s : State) : CReg → Nat
  | .intbl => s.intb.toNat % 65536
  | .intbh => s.intb.toNat / 65536
  | .flg => s.flg.c.toNat + 2 * s.flg.d.toNat + 4 * s.flg.z.toNat + 8 * s.flg.s.toNat + 16 * s.flg.b.toNat + 32 * s.flg.o.toNat +
      64 * s.flg.i.toNat + 128 * s.flg.u.toNat + 4096 * s.flg.ipl.toNat
  | .isp => s.isp.toNat
  | .sp => if s.flg.u then s.usp.toNat else s.isp.toNat
  | .sb => s.sb.toNat
  | .fb => s.fb.toNat

/-- The frame of R621 lies below stack pointer `p`: PC bits 7:0 and 15:8, FLGL, then IPL and PC bits 19:16. -/
def FrameBelow (t : State) (p : Word) (f : Flg) (ret : Addr) : Prop :=
  MemIs t (zext20 (p - 4)) (BitVec.ofNat 8 ret.toNat) ∧
  MemIs t (zext20 (p - 4) + 1) (BitVec.ofNat 8 (ret.toNat / 256)) ∧
  MemIs t (zext20 (p - 2)) (byteOfBits f.u f.i f.o f.b f.s f.z f.d f.c) ∧
  MemIs t (zext20 (p - 2) + 1) (BitVec.ofNat 8 (16 * f.ipl.toNat + ret.toNat / 65536))

/-- A return address lies below stack pointer `p` (R460). -/
def ReturnBelow (t : State) (p : Word) (ret : Addr) : Prop :=
  MemIs t (zext20 (p - 3)) (BitVec.ofNat 8 ret.toNat) ∧
  MemIs t (zext20 (p - 3) + 1) (BitVec.ofNat 8 (ret.toNat / 256)) ∧
  MemIs t (zext20 (p - 1)) (BitVec.ofNat 8 (ret.toNat / 65536))

/-- The handler address that a vector in plain memory holds: bits 19:0 of its four bytes (R75). -/
def State.vectorAt (t : State) (vec : Addr) : Nat :=
  (t.peek vec).toNat + 256 * (t.peek (vec + 1)).toNat + 65536 * ((t.peek (vec + 2)).toNat % 16)

/-- PC is the handler address that the vector holds; of a vector that is not in plain memory this says nothing. -/
def AtHandler (t : State) (vec : Addr) : Prop :=
  (∀ a, a ∈ bytesFrom vec 4 → t.layout.inImage a = true) → t.pc.toNat = t.vectorAt vec

/-- What an interrupt entry from `s` leaves (R620, R621, R670): I and D clear, U clear if `clearU`, IPL as given, the other flags and every
register but the stack pointer as they were, the frame with the old FLG and `ret` on the stack that the new U selects, PC at the handler. -/
structure Entered (s t : State) (vec ret : Addr) (clearU : Bool) (lvl : Option (BitVec 3)) : Prop where
  flags : t.flg = { s.flg with i := false, d := false, u := !clearU && s.flg.u, ipl := lvl.getD s.flg.ipl }
  user : t.usp = if !clearU && s.flg.u then s.usp - 4 else s.usp
  interrupt : t.isp = if !clearU && s.flg.u then s.isp else s.isp - 4
  frame : FrameBelow t (if !clearU && s.flg.u then s.usp else s.isp) s.flg ret
  handler : AtHandler t vec
  banks : t.bank0 = s.bank0 ∧ t.bank1 = s.bank1 ∧ t.sb = s.sb ∧ t.intb = s.intb
  accepts : t.iAccept = false

/-- Runs the same instruction up to `n` times, one iteration each, for as long as PC stays at it (R500). -/
def runRepeat (i : Instr) : Nat → State → Option State
  | 0, s => some s
  | n + 1, s =>
    match exec i s with
    | .next t => if t.pc = s.pc then runRepeat i n t else some t
    | .fault _ => none
    | .refused _ => none

/-! ### Bits, nibbles, products, quotients -/

/-- The value of a designated bit (R260). -/
def bitValue (s : State) : BitPlace → Bool
  | .dreg r k => decide ((s.word r).toNat / 2 ^ k.toNat % 2 = 1)
  | .areg a k => decide ((s.areg a).toNat / 2 ^ k.toNat % 2 = 1)
  | .mem a k => decide ((readByte s a).1.toNat / 2 ^ k.toNat % 2 = 1)

/-- The nibbles of MOVDir's result (R214). -/
def nibbles (dir : Dir) (src dst : Byte) : Nat :=
  match dir with
  | .hh => src.toNat / 16 * 16 + dst.toNat % 16
  | .hl => dst.toNat / 16 * 16 + src.toNat / 16
  | .lh => src.toNat % 16 * 16 + dst.toNat % 16
  | .ll => dst.toNat / 16 * 16 + src.toNat % 16

/-- MOVDir as a law (R214). -/
def MovesNibble (dir : Dir) : Law := fun n f d x r g =>
  r.toNat = nibbles dir (x.setWidth 8) (d.setWidth 8) ∧ n = 8 ∧ g = f

/-- `p` is the product of `a` and `b`, exact in the double width (R408, R410). -/
def IsProduct (signed : Bool) {n m : Nat} (a b : BitVec n) (p : BitVec m) : Prop :=
  if signed then p.toInt = a.toInt * b.toInt else p.toNat = a.toNat * b.toNat

/-- Where the `.B` product goes (the table of R407). -/
def Multiplies8 (signed : Bool) (x : Byte) (u t : State) : Operand → Prop
  | .dreg .r0lR0 => IsProduct signed (u.byte .r0lR0) x (t.word .r0lR0)
  | .dreg .r1lR2 => IsProduct signed (u.byte .r1lR2) x (t.word .r0hR1)
  | .areg .a0 => IsProduct signed ((u.areg .a0).setWidth 8) x (t.areg .a0)
  | .mem m => ∃ p : Word, IsProduct signed (readByte u (u.ea m)).1 x p ∧ Stored t (u.ea m) (wordBytes p)
  | _ => False

/-- Where the `.W` product goes (the table of R407). -/
def Multiplies16 (signed : Bool) (x : Word) (u t : State) : Operand → Prop
  | .dreg .r0lR0 => IsProduct signed (u.word .r0lR0) x (t.word .r1lR2 ++ t.word .r0lR0)
  | .dreg .r0hR1 => IsProduct signed (u.word .r0hR1) x (t.word .r1hR3 ++ t.word .r0hR1)
  | .areg .a0 => IsProduct signed (u.areg .a0) x (t.areg .a1 ++ t.areg .a0)
  | .mem m => ∃ p : Long, IsProduct signed (read16 u (u.ea m)).1 x p ∧ Stored t (u.ea m) (longBytes p)
  | _ => False

def MultipliesFrom (signed : Bool) (sz : Size) (src dst : Operand) (s t : State) : Prop :=
  match sz with
  | .b => Multiplies8 signed (readSrc8 s src).1 (readSrc8 s src).2 t dst
  | .w => Multiplies16 signed (readSrc16 s src).1 (readSrc16 s src).2 t dst

def MultipliesImm (signed : Bool) (imm : Imm) (dst : Operand) (s t : State) : Prop :=
  match imm with
  | .b v => Multiplies8 signed v s t dst
  | .w v => Multiplies16 signed v s t dst

/-- `i` is representable in `n` bits, unsigned for DIVU, else signed (D22). -/
def representable (k : DivKind) (n : Nat) (i : Int) : Bool :=
  match k with
  | .divu => decide (0 ≤ i ∧ i < (2 ^ n : Int))
  | .div => !outsideSigned n i
  | .divx => !outsideSigned n i

/-- The integer a pattern stands for: unsigned for DIVU, else signed (R401, R403, R405). -/
def divInt (k : DivKind) {n : Nat} (x : BitVec n) : Int :=
  match k with
  | .divu => x.toNat
  | .div => x.toInt
  | .divx => x.toInt

/-- R400 to R405: O is set exactly where the divisor is 0 or no representable quotient exists, and where it is clear quotient and remainder
divide `a` by `b`, the remainder smaller than the divisor and with the sign of the dividend (DIV), of the divisor (DIVX), or none (DIVU). -/
def Quotient (k : DivKind) (n : Nat) (a b q r : Int) (o : Bool) : Prop :=
  (o = true ↔ b = 0 ∨ representable k n (if k = .div then a.tdiv b else a.fdiv b) = false) ∧
  (o = false → a = q * b + r ∧ r.natAbs < b.natAbs ∧ (r = 0 ∨ (0 < r ↔ 0 < (match k with
    | .div => a
    | .divx => b
    | .divu => 1))))

/-- A division with divisor `x` read in `u` (R400). -/
def Divides8 (k : DivKind) (x : Byte) (u t : State) : Prop :=
  Quotient k 8 (divInt k (u.word .r0lR0)) (divInt k x) (divInt k (t.byte .r0lR0)) (divInt k (t.byte .r0hR1)) t.flg.o

def Divides16 (k : DivKind) (x : Word) (u t : State) : Prop :=
  Quotient k 16 (divInt k (u.word .r1lR2 ++ u.word .r0lR0)) (divInt k x) (divInt k (t.word .r0lR0)) (divInt k (t.word .r1lR2)) t.flg.o

def DividesFrom (k : DivKind) (sz : Size) (src : Operand) (s t : State) : Prop :=
  match sz with
  | .b => Divides8 k (readSrc8 s src).1 (readSrc8 s src).2 t
  | .w => Divides16 k (readSrc16 s src).1 (readSrc16 s src).2 t

def DividesImm (k : DivKind) (imm : Imm) (s t : State) : Prop :=
  match imm with
  | .b v => Divides8 k v s t
  | .w v => Divides16 k v s t

/-- The accumulator of RMPA as an integer: R0, or R2R0 (R412). -/
def accumulator (sz : Size) (s : State) : Int :=
  match sz with
  | .b => (s.word .r0lR0).toInt
  | .w => (s.word .r1lR2 ++ s.word .r0lR0).toInt

/-- The two factors of RMPA's next product, the one at A0 read first (R412). -/
def factors (sz : Size) (s : State) : Int × Int :=
  match sz with
  | .b =>
    ((readByte s (zext20 (s.areg .a0))).1.toInt,
      (readByte (readByte s (zext20 (s.areg .a0))).2 (zext20 (s.areg .a1))).1.toInt)
  | .w =>
    ((read16 s (zext20 (s.areg .a0))).1.toInt,
      (read16 (read16 s (zext20 (s.areg .a0))).2 (zext20 (s.areg .a1))).1.toInt)

/-- Bytes that a move of this size stores at A1, read at `a` (R501). -/
def elementBytes (sz : Size) (s : State) (a : Addr) : List Byte :=
  match sz with
  | .b => [(readByte s a).1]
  | .w => wordBytes (read16 s a).1

/-- The instruction ends its last iteration at the next instruction, any other at itself (R500, R503). -/
def NextIteration (i : Instr) (s t : State) : Prop :=
  t.word .r1hR3 = s.word .r1hR3 - 1 ∧ t.pc = if s.word .r1hR3 = 1 then s.nextPc i else s.pc

/-! ### Requests -/

/-- A hardware request that could be taken now (R605 to R612). -/
def State.requests (s : State) : Hardware → Prop
  | .nmi => s.req.nmi = true
  | .dbc => s.req.dbc = true
  | .watchdog => s.req.wdt = true
  | .peripheral n => n < 32 ∧ s.iAccept = true ∧ s.req.ir.getLsbD n = true ∧ s.flg.ipl.toNat < (s.level n).toNat
  | .singleStep => s.stepReq = true
  | .addressMatch => s.waiting = false ∧ s.pc ∈ s.req.addrMatch

/-- The hardware order of R614. -/
def Hardware.rank : Hardware → Nat
  | .nmi => 0
  | .dbc => 1
  | .watchdog => 2
  | .peripheral _ => 3
  | .singleStep => 4
  | .addressMatch => 5

/-- `h` goes before `k`: the hardware order, then the higher level, then the order of the peripheral sources (R614, log 17). -/
def State.goesBefore (s : State) (h k : Hardware) : Prop :=
  Hardware.rank h < Hardware.rank k ∨
  match h, k with
  | .peripheral n, .peripheral m =>
    (s.level m).toNat < (s.level n).toNat ∨
    (s.level m = s.level n ∧ (Config.periphRank n < Config.periphRank m ∨
      (Config.periphRank n = Config.periphRank m ∧ n < m)))
  | _, _ => False

/-- The instructions that call a subroutine (R480 to R484). -/
def Instr.isCall : Instr → Bool
  | .jsrs _ | .jsrW _ | .jsrA _ | .jsriA _ | .jsriW _ => true
  | _ => false

/-- LDC, POPC and LDINTB set the one-shot inhibit (R673, R540). -/
def Instr.inhibits : Instr → Bool
  | .ldc _ _ | .ldcImm _ _ | .popc _ | .ldintb _ => true
  | _ => false

end Sys2Proof.Machine
end

