-- ==== Sys2Proof/Certificates/Slice0/Obligations.lean ====
section
/-! DEFINITION. The statements for the provers, in the words of Sys2Proof/Safety.lean. A statement about an instruction says when it
completes and what it leaves in its destination, its flags and PC; what it leaves alone is said once for all instructions by
RegistersKept, FlagsKept, MemoryKept and ControlKept. -/

section

open Sys2Proof Sys2Proof.Machine

/-! ### Encoding -/

/-- Decoding the bytes of a well-formed instruction gives it back, whatever follows it (R100 to R109, R143). SBJNZ and LDINTB, whose bytes are
those of other instructions, stand in SecondNames. Some op-codes are PRESUMED (log 29). -/
def Obligations.DecodeInvertsEncode : Prop :=
  ∀ (i : Instr) (rest : List Byte), i.wellFormed = true → Instr.canonical i = true → decode (encode i ++ rest) = .ok (i, rest)

/-- What the decoder answers is an instruction of the manual of 1 to 7 bytes, and it has read exactly its length (R5, R100, R107, R142). -/
def Obligations.DecodedIsInstruction : Prop :=
  ∀ (bs : List Byte) (i : Instr) (rest : List Byte), decode bs = .ok (i, rest) →
    i.wellFormed = true ∧ Instr.canonical i = true ∧ 1 ≤ i.length ∧ i.length ≤ 7 ∧ i.length ≤ bs.length ∧ rest = bs.drop i.length

/-- SBJNZ #k has the bytes and the effect of ADJNZ #-k (R462); LDINTB has the bytes of LDC to INTBH followed by LDC to INTBL, and the effect of
running the two, after which INTB is the immediate (R540). -/
def Obligations.SecondNames : Prop :=
  (∀ (sz : Size) (k : BitVec 4) (dst : Operand) (d : Byte) (rest : List Byte) (s : State),
    (Instr.sbjnz sz k dst d).wellFormed = true →
    decode (encode (.sbjnz sz k dst d) ++ rest) = .ok (.adjnz sz (-k) dst d, rest) ∧
    ∃ t, exec (.adjnz sz (-k) dst d) s = .next t ∧ exec (.sbjnz sz k dst d) s = .next t) ∧
  (∀ (a : Addr) (rest : List Byte) (s : State), ∃ hi lo : Word,
    hi.toNat = a.toNat / 65536 ∧ lo.toNat = a.toNat % 65536 ∧
    decode (encode (.ldintb a) ++ rest) = .ok (.ldcImm .intbh hi, encode (.ldcImm .intbl lo) ++ rest) ∧
    ∃ u t, exec (.ldcImm .intbh hi) s = .next u ∧ exec (.ldcImm .intbl lo) u = .next t ∧ exec (.ldintb a) s = .next t ∧
      t.intb = a ∧ t.inhibitOnce = true ∧ t.pc = s.pc + 8)

/-- A few codes, written out byte by byte, decode to the instruction that the spec gives them (R206, R207, R238, R305, R337, R438, R462, R482,
R526, R537, R540). The manual prints the bytes 73 01 and 73 F1 00 40 only (SE174); the others are the spec's encodings, and of them 9C 03, F9 F0 FA
and EB E1 are PRESUMED (log 29). -/
def Obligations.PrintedCodesDecode : Prop :=
  decode [0x73, 0x01] = .ok (.movG .w (.dreg .r0lR0) (.dreg .r0hR1), []) ∧
  decode [0x73, 0xF1, 0x00, 0x40] = .ok (.movG .w (.mem (.abs16 0x4000)) (.dreg .r0hR1), []) ∧
  decode [0x30] = .ok (.movSSrcA .a0 .half, []) ∧
  decode [0x7A, 0x06] = .ok (.xchg .b .r0lR0 (.mem (.ind .a0)), []) ∧
  decode [0xF0, 0xA0] = .ok (.shaImm .b ⟨true, 2⟩ (.dreg .r0lR0), []) ∧
  decode [0x77, 0x46, 0x02, 0x00] = .ok (.addImm (.w 2) (.mem (.ind .a0)), []) ∧
  decode [0x9C, 0x03] = .ok (.orSImm 3 (.half .r0l), []) ∧
  decode [0xF9, 0xF0, 0xFA] = .ok (.adjnz .w 0xF (.dreg .r0lR0) 0xFA, []) ∧
  decode [0x7D, 0x30] = .ok (.jsriW (.dreg .r0lR0), []) ∧
  decode [0xEB, 0xE1] = .ok (.int 33, []) ∧
  decode [0x7A, 0xF4] = .ok (.ldc .fb (.areg .a0), []) ∧
  decode [0xEB, 0x20, 0x0F, 0x00] = .ok (.ldcImm .intbh 0x000F, [])

/-! ### The machine -/

/-- Every well-formed instruction completes from every state (R602, R640). A term that no code stands for is refused: that codes printed "---" and
forbidden combinations (R142) have no successor is the spec's decision D1 (log 43, DESIGN CHOICE), and that `.B` with A0 or A1 is among them in the
one-operand instructions is D19 (log 21, DESIGN CHOICE). -/
def Obligations.WellFormedCompletes : Prop :=
  ∀ (i : Instr) (s : State), (i.wellFormed = true → ∃ t, exec i s = .next t) ∧
    (i.wellFormed = false → exec i s = .refused .notSelectable)

/-- When the step runs an instruction and the bytes at PC decode to i, it is exec of i from the state in which the one-shot inhibit is used up,
the boundary is open again and I as it stands counts for the coming boundary; an instruction that began with D = 1 and is complete raises the
single-step request (R107, R608, R615, R670). The field for I is log 14, the boundary that opens again log 15 (both DEDUCED), the single-step
request log 16, the bytes that a fetch sees log 7 (DESIGN CHOICE). -/
def Obligations.StepRunsDecoded : Prop :=
  ∀ (s : State) (i : Instr) (rest : List Byte), s.runsInstr → decode (s.fetch s.pc fetchLength) = .ok (i, rest) → i.wellFormed = true →
    ∃ t, exec i { s with inhibitOnce := false, boundaryTaken := false, iAccept := s.flg.i } = .next t ∧
      step s = .next { t with stepReq := t.stepReq || (s.flg.d && !(Instr.repeats i && t.pc == s.pc)) }

/-- A step has a successor except where it runs an instruction and the bytes at PC are no assigned code (R142, R602). The manual says nothing of
such a code; that it has no successor is the spec's decision D1 (log 43, DESIGN CHOICE). -/
def Obligations.StepProgress : Prop :=
  ∀ s : State, (∃ t, step s = .next t) ∨
    (s.runsInstr ∧ ∃ e, decode (s.fetch s.pc fetchLength) = .error e ∧ step s = .refused (.undecodable e))

/-- The invariant is kept by every step from every state that has it (R60, R580, R615). -/
def Obligations.StepKeepsInvariant : Prop :=
  ∀ s t : State, s.Inv → step s = .next t → t.Inv

/-- The state after reset has the invariant; in it every register of bank 0 and every other register is 0, so are the flags and IPL, and the
one-shot inhibit is set (R51, R662, R663). Bank 1 is 0 by the model's choice (log 9). -/
def Obligations.ResetState : Prop :=
  State.reset.Inv ∧
  (∀ (b : Bool) (r : Reg), State.reset.reg b r = 0) ∧ (∀ f : Flag, Flg.flag State.reset.flg f = false) ∧ State.reset.flg.ipl = 0 ∧
  State.reset.waiting = false ∧ State.reset.inhibitOnce = true

/-- A reset request is served before everything else: registers, flags and IPL are cleared, a halt ends, memory is kept, PC comes from the reset
vector, and one instruction will run before any interrupt (R614, R660, R661, R663). The model's choices in it: bank 1 is 0 (D10, log 9), memory
is kept (D12, log 10), of the vector only bits 19:0 count (D13, log 23). -/
def Obligations.ResetStep : Prop :=
  ∀ s : State, s.resetReq = true → ∃ t, step s = .next t ∧
    (∀ (b : Bool) (r : Reg), t.reg b r = 0) ∧ (∀ f : Flag, Flg.flag t.flg f = false) ∧ t.flg.ipl = 0 ∧
    t.waiting = false ∧ t.inhibitOnce = true ∧ (∀ a : Addr, t.peek a = s.peek a) ∧ t.pc.toNat = s.vectorAt 0xFFFFC

/-- A memory, for the frame and round-trip statements (R60, R63, R71, R72, R80): a byte stored in writable memory is read back, and every other byte
keeps its value; a write anywhere else, to ROM too, changes no byte of the image and is the platform's newest access; a read of plain memory
answers the byte and changes nothing. Where RAM, ROM and external memory lie is a parameter of the platform, what a write outside writable memory does
is D3's default (log 8, DESIGN CHOICE), and so is the extent of the SFR area (log 4). -/
def Obligations.StoredByteReadBack : Prop :=
  ∀ (s : State) (a b : Addr) (v : Byte), Memory.wf s.mem = true →
    (s.layout.isWritable a = true →
      (writeByte s a v).peek b = (if b = a then v else s.peek b) ∧ (readByte (writeByte s a v) a).1 = v) ∧
    (s.layout.isWritable a = false →
      (writeByte s a v).peek b = s.peek b ∧ (writeByte s a v).platformLog = .write a v :: s.platformLog) ∧
    (s.layout.inImage a = true → readByte s a = (s.peek a, s))

/-! ### What every instruction leaves alone -/

/-- Every register keeps its value but those that Instr.writes lists: the destinations and what the rule updates beside them. The bank that B
does not select keeps all its registers (R26, R27). -/
def Obligations.RegistersKept : Prop :=
  ∀ (i : Instr) (s t : State), exec i s = .next t →
    (∀ r : Reg, r ∉ Instr.writes s i → t.reg s.flg.b r = s.reg s.flg.b r) ∧ t.bankOf (!s.flg.b) = s.bankOf (!s.flg.b)

/-- Every flag keeps its value but those that the instruction's flag table marks, and IPL but for LDIPL, REIT, and LDC and POPC to FLG (R12). -/
def Obligations.FlagsKept : Prop :=
  ∀ (i : Instr) (s t : State), exec i s = .next t →
    (∀ f : Flag, f ∉ Instr.flags s i → Flg.flag t.flg f = Flg.flag s.flg f) ∧
    (Instr.setsIpl i = false → t.flg.ipl = s.flg.ipl)

/-- Every byte of memory keeps its value but those at the addresses that Instr.stores computes as the instruction's rule computes them; a form
that stores nothing keeps all of memory. -/
def Obligations.MemoryKept : Prop :=
  ∀ (i : Instr) (s t : State) (a : Addr), exec i s = .next t → a ∉ Instr.stores s i → t.peek a = s.peek a

/-- What no instruction touches beside registers, flags and memory: only WAIT halts, only LDC, POPC and LDINTB set the inhibit, no instruction
touches the latched inputs or the platform's parameters or sets a request bit, the platform's log only grows, and levels, request bits and match
addresses change only with an access that the platform sees (R46, R48, R49, R71, R610, R673). That no access raises NMI, DBC, watchdog or reset
requests, and what an access may do to levels and match addresses, is the model's choice (log 5, log 11, DESIGN CHOICE). -/
def Obligations.ControlKept : Prop :=
  ∀ (i : Instr) (s t : State), exec i s = .next t →
    t.waiting = (s.waiting || decide (i = .wait)) ∧ t.inhibitOnce = (s.inhibitOnce || Instr.inhibits i) ∧
    t.boundaryTaken = s.boundaryTaken ∧ t.stepReq = s.stepReq ∧ t.resetReq = s.resetReq ∧
    t.req.nmi = s.req.nmi ∧ t.req.dbc = s.req.dbc ∧ t.req.wdt = s.req.wdt ∧
    (∀ n, t.req.ir.getLsbD n = true → s.req.ir.getLsbD n = true) ∧
    t.layout = s.layout ∧ s.platformLog <:+ t.platformLog ∧ (t.platformLog = s.platformLog → t.req = s.req)

/-! ### Addressing -/

/-- The effective addresses of R112 to R117: 16-bit arithmetic that wraps, unsigned dsp:8 from An and SB, signed dsp:8 from FB and SP; the 20-bit
ones of R120 and R121, and the memory operand of JMPI and JSRI, whose dsp:20[An] is the 20-bit one and whose other forms are the general ones
(R474); and where a bit operand lies: for every memory form a byte and a bit of R125, for a register the code's bit number. The codes of the SB and FB
relative bit operands are DEDUCED (log 31). -/
def Obligations.Addresses : Prop :=
  ∀ s : State,
    (∀ a, (s.ea (.ind a)).toNat = (s.areg a).toNat) ∧
    (∀ a d, (s.ea (.dsp8A a d)).toNat = ((s.areg a).toNat + d.toNat) % 65536) ∧
    (∀ d, (s.ea (.dsp8SB d)).toNat = (s.sb.toNat + d.toNat) % 65536) ∧
    (∀ d, ((s.ea (.dsp8FB d)).toNat : Int) = (s.fb.toNat + d.toInt) % 65536) ∧
    (∀ a d, (s.ea (.dsp16A a d)).toNat = ((s.areg a).toNat + d.toNat) % 65536) ∧
    (∀ d, (s.ea (.dsp16SB d)).toNat = (s.sb.toNat + d.toNat) % 65536) ∧
    (∀ d, (s.ea (.abs16 d)).toNat = d.toNat) ∧
    (∀ d, ((s.eaSp d).toNat : Int) = (s.sp.toNat + d.toInt) % 65536) ∧
    (∀ a d, (s.eaDsp20 a d).toNat = ((s.areg a).toNat + d.toNat) % 1048576) ∧
    s.eaA1A0.toNat = (s.areg .a1).toNat % 16 * 65536 + (s.areg .a0).toNat ∧
    (∀ r k, s.bitPlace (.dreg r k) = .dreg r k) ∧ (∀ a k, s.bitPlace (.areg a k) = .areg a k) ∧
    (∀ m, (s.eaInd (.mem m)).toNat = (s.ea m).toNat) ∧
    (∀ r d, (s.eaInd (.dsp20A r d)).toNat = ((s.areg r).toNat + d.toNat) % 1048576) ∧
    (∀ r, ∃ a k, s.bitPlace (.ind r) = .mem a k ∧ a.toNat = (s.areg r).toNat / 8 ∧ k.toNat = (s.areg r).toNat % 8) ∧
    (∀ r b, ∃ a k, s.bitPlace (.base8A r b) = .mem a k ∧
      a.toNat = (b.toNat + (s.areg r).toNat / 8) % 65536 ∧ k.toNat = (s.areg r).toNat % 8) ∧
    (∀ c, ∃ a k, s.bitPlace (.base8SB c) = .mem a k ∧ a.toNat = (s.sb.toNat + c.toNat / 8) % 65536 ∧ k.toNat = c.toNat % 8) ∧
    (∀ c, ∃ a k, s.bitPlace (.base8FB c) = .mem a k ∧
      (a.toNat : Int) = (s.fb.toNat + c.toInt / 8) % 65536 ∧ k.toNat = c.toNat % 8) ∧
    (∀ r b, ∃ a k, s.bitPlace (.base16A r b) = .mem a k ∧
      a.toNat = (b.toNat + (s.areg r).toNat / 8) % 65536 ∧ k.toNat = (s.areg r).toNat % 8) ∧
    (∀ c, ∃ a k, s.bitPlace (.base16SB c) = .mem a k ∧ a.toNat = (s.sb.toNat + c.toNat / 8) % 65536 ∧ k.toNat = c.toNat % 8) ∧
    (∀ c, ∃ a k, s.bitPlace (.base16 c) = .mem a k ∧ a.toNat = c.toNat / 8 ∧ k.toNat = c.toNat % 8) ∧
    (∀ k d, ∃ a, s.bitPlaceS k d = .mem a k ∧ a.toNat = (s.sb.toNat + d.toNat) % 65536)

/-! ### Arithmetic -/

/-- R331: the result and the flags of `addF`. -/
def Obligations.AdditionFlags : Prop :=
  ∀ (n : Nat) (f : Flg) (a b : BitVec n) (c : Bool), 0 < n → Adds (fun _ => c) n f a b (addF f a b c).1 (addF f a b c).2

/-- R332: the result and the flags of `subF`; C is "no borrow", and the borrow that SBB takes in is the inverted C. -/
def Obligations.SubtractionFlags : Prop :=
  ∀ (n : Nat) (f : Flg) (a b : BitVec n), 0 < n →
    (∀ k : Bool, Subtracts (fun _ => k) n f a b (subF f a b k).1 (subF f a b k).2) ∧
    Subtracts (fun g => !g.c) n f a b (opSbb n f a b).1 (opSbb n f a b).2

/-- ADD, ADC and ADCF in every form: the sum in the destination and O, S, Z, C, at 8 or 16 bits, at 16 bits on a zero-extended source for `.B`
with A0 or A1 as destination (R330, R331, R334 to R341). ADD to SP: the stack pointer that U selects plus the sign-extended immediate, O, S, Z, C
at 16 bits (R352, R353). Words in memory are little-endian (log 30). -/
def Obligations.Additions : Prop :=
  ∀ s : State, Memory.wf s.mem = true →
    (∀ sz src dst, (Instr.addG sz src dst).wellFormed = true →
      Completes (.addG sz src dst) s (UpdatesFrom (Adds fun _ => false) sz src dst s)) ∧
    (∀ v dst, Completes (.addImm v dst) s (UpdatesImm (Adds fun _ => false) v dst s)) ∧
    (∀ sz v dst, Completes (.addQ sz v dst) s (UpdatesImm (Adds fun _ => false) (quick sz v) dst s)) ∧
    (∀ v d, Completes (.addSImm v d) s (Updates8 (Adds fun _ => false) v s · (ShortDest.operand d))) ∧
    (∀ h x, Completes (.addSSrcHalf h x) s
      (UpdatesFrom (Adds fun _ => false) .b (ShortSrc.operand h x) (.dreg (Half.dreg h)) s)) ∧
    (∀ sz src dst, (Instr.adcG sz src dst).wellFormed = true →
      Completes (.adcG sz src dst) s (UpdatesFrom (Adds Flg.c) sz src dst s)) ∧
    (∀ v dst, Completes (.adcImm v dst) s (UpdatesImm (Adds Flg.c) v dst s)) ∧
    (∀ sz dst, (Instr.adcf sz dst).wellFormed = true → Completes (.adcf sz dst) s (UpdatesOne AddsCarry sz dst s)) ∧
    (∀ v : Byte, Completes (.addImmSp (.b v)) s fun t =>
      ∃ x : Word, x.toInt = v.toInt ∧ Adds (fun _ => false) 16 s.flg s.sp x t.sp t.flg) ∧
    (∀ v : Word, Completes (.addImmSp (.w v)) s fun t => Adds (fun _ => false) 16 s.flg s.sp v t.sp t.flg) ∧
    (∀ v : BitVec 4, Completes (.addQSp v) s fun t =>
      ∃ x : Word, x.toInt = v.toInt ∧ Adds (fun _ => false) 16 s.flg s.sp x t.sp t.flg)

/-- SUB, SBB and NEG in every form: the difference in the destination and O, S, Z, C; SBB borrows the inverted C (R332, R360 to R366). Words in
memory are little-endian (log 30). -/
def Obligations.Subtractions : Prop :=
  ∀ s : State, Memory.wf s.mem = true →
    (∀ sz src dst, (Instr.subG sz src dst).wellFormed = true →
      Completes (.subG sz src dst) s (UpdatesFrom (Subtracts fun _ => false) sz src dst s)) ∧
    (∀ v dst, Completes (.subImm v dst) s (UpdatesImm (Subtracts fun _ => false) v dst s)) ∧
    (∀ v d, Completes (.subSImm v d) s (Updates8 (Subtracts fun _ => false) v s · (ShortDest.operand d))) ∧
    (∀ h x, Completes (.subSSrcHalf h x) s
      (UpdatesFrom (Subtracts fun _ => false) .b (ShortSrc.operand h x) (.dreg (Half.dreg h)) s)) ∧
    (∀ sz src dst, (Instr.sbbG sz src dst).wellFormed = true →
      Completes (.sbbG sz src dst) s (UpdatesFrom (Subtracts fun f => !f.c) sz src dst s)) ∧
    (∀ v dst, Completes (.sbbImm v dst) s (UpdatesImm (Subtracts fun f => !f.c) v dst s)) ∧
    (∀ sz dst, (Instr.neg sz dst).wellFormed = true → Completes (.neg sz dst) s (UpdatesOne Negates sz dst s))

/-- CMP in every form sets O, S, Z, C as a subtraction does and writes no register and no byte (R342 to R346). -/
def Obligations.Comparisons : Prop :=
  ∀ s : State,
    (∀ sz src dst, (Instr.cmpG sz src dst).wellFormed = true →
      Completes (.cmpG sz src dst) s fun t => ComparesFrom (Subtracts fun _ => false) sz src dst s t ∧ Untouched s t) ∧
    (∀ v dst, Completes (.cmpImm v dst) s fun t => ComparesImm (Subtracts fun _ => false) v dst s t ∧ Untouched s t) ∧
    (∀ sz v dst, Completes (.cmpQ sz v dst) s fun t =>
      ComparesImm (Subtracts fun _ => false) (quick sz v) dst s t ∧ Untouched s t) ∧
    (∀ v d, Completes (.cmpSImm v d) s fun t =>
      Compares8 (Subtracts fun _ => false) v s t (ShortDest.operand d) ∧ Untouched s t) ∧
    (∀ h x, Completes (.cmpSSrcHalf h x) s fun t =>
      ComparesFrom (Subtracts fun _ => false) .b (ShortSrc.operand h x) (.dreg (Half.dreg h)) s t ∧ Untouched s t)

/-- The fourteen conditions, as the table of R465 gives them. GTU and LEU are marked there as derived from CMP's flags, the overline of the
manual's print being lost (C2 of 90_conflicts.md). -/
def Obligations.ConditionTable : Prop :=
  ∀ f : Flg,
    (condHolds .geu f = true ↔ f.c = true) ∧ (condHolds .ltu f = true ↔ f.c = false) ∧
    (condHolds .eq f = true ↔ f.z = true) ∧ (condHolds .ne f = true ↔ f.z = false) ∧
    (condHolds .gtu f = true ↔ f.c = true ∧ f.z = false) ∧ (condHolds .leu f = true ↔ f.c = false ∨ f.z = true) ∧
    (condHolds .pz f = true ↔ f.s = false) ∧ (condHolds .n f = true ↔ f.s = true) ∧
    (condHolds .ge f = true ↔ xor f.s f.o = false) ∧ (condHolds .le f = true ↔ xor f.s f.o = true ∨ f.z = true) ∧
    (condHolds .gt f = true ↔ xor f.s f.o = false ∧ f.z = false) ∧ (condHolds .lt f = true ↔ xor f.s f.o = true) ∧
    (condHolds .o f = true ↔ f.o = true) ∧ (condHolds .no f = true ↔ f.o = false)

/-- After a comparison the conditions mean what their names say of destination and source, unsigned and signed (R332, R465). -/
def Obligations.ConditionsAfterCompare : Prop :=
  ∀ (n : Nat) (f g : Flg) (d x r : BitVec n), 0 < n → Subtracts (fun _ => false) n f d x r g →
    (condHolds .geu g = true ↔ x.toNat ≤ d.toNat) ∧ (condHolds .ltu g = true ↔ d.toNat < x.toNat) ∧
    (condHolds .gtu g = true ↔ x.toNat < d.toNat) ∧ (condHolds .leu g = true ↔ d.toNat ≤ x.toNat) ∧
    (condHolds .eq g = true ↔ d = x) ∧ (condHolds .ne g = true ↔ d ≠ x) ∧
    (condHolds .ge g = true ↔ x.toInt ≤ d.toInt) ∧ (condHolds .lt g = true ↔ d.toInt < x.toInt) ∧
    (condHolds .gt g = true ↔ x.toInt < d.toInt) ∧ (condHolds .le g = true ↔ d.toInt ≤ x.toInt)

/-- AND, OR, XOR and NOT in every form: the bitwise result and S and Z; TST sets S and Z of the conjunction and writes no register and no byte (R430
to R444).
Words in memory are little-endian (log 30). -/
def Obligations.LogicalOperations : Prop :=
  ∀ s : State, Memory.wf s.mem = true →
    (∀ sz src dst, (Instr.andG sz src dst).wellFormed = true →
      Completes (.andG sz src dst) s (UpdatesFrom (Bitwise and) sz src dst s) ∧
      Completes (.orG sz src dst) s (UpdatesFrom (Bitwise or) sz src dst s) ∧
      Completes (.xorG sz src dst) s (UpdatesFrom (Bitwise xor) sz src dst s) ∧
      Completes (.tstG sz src dst) s fun t => ComparesFrom (Bitwise and) sz src dst s t ∧ Untouched s t) ∧
    (∀ v dst, Completes (.andImm v dst) s (UpdatesImm (Bitwise and) v dst s) ∧
      Completes (.orImm v dst) s (UpdatesImm (Bitwise or) v dst s) ∧
      Completes (.xorImm v dst) s (UpdatesImm (Bitwise xor) v dst s) ∧
      Completes (.tstImm v dst) s fun t => ComparesImm (Bitwise and) v dst s t ∧ Untouched s t) ∧
    (∀ v d, Completes (.andSImm v d) s (Updates8 (Bitwise and) v s · (ShortDest.operand d)) ∧
      Completes (.orSImm v d) s (Updates8 (Bitwise or) v s · (ShortDest.operand d))) ∧
    (∀ h x, Completes (.andSSrcHalf h x) s (UpdatesFrom (Bitwise and) .b (ShortSrc.operand h x) (.dreg (Half.dreg h)) s) ∧
      Completes (.orSSrcHalf h x) s (UpdatesFrom (Bitwise or) .b (ShortSrc.operand h x) (.dreg (Half.dreg h)) s)) ∧
    (∀ sz dst, (Instr.notG sz dst).wellFormed = true →
      Completes (.notG sz dst) s (UpdatesOne (Bitwise fun _ d => !d) sz dst s)) ∧
    (∀ d, Completes (.notS d) s (UpdatesOne (Bitwise fun _ d => !d) .b (ShortDest.operand d) s))

/-- INC and DEC: the destination plus or minus 1 modulo its width, S and Z, and neither C nor O (R354, R355, R358, R359). ABS: the absolute value,
O where the operand is the most negative number, C free (R333). EXTS.B and EXTS.W: the sign-extended value, S and Z of it for `.B` only (R356,
R357). Where EXTS.B puts its word is DEDUCED (log 38); that a memory operand takes it at its effective address is marked as derived in R356. Words
in memory are little-endian (log 30). -/
def Obligations.CountAbsoluteExtend : Prop :=
  ∀ s : State, Memory.wf s.mem = true →
    (∀ d, Completes (.incB d) s (UpdatesOne (Counts 1) .b (ShortDest.operand d) s)) ∧
    (∀ d, Completes (.decB d) s (UpdatesOne (Counts (-1)) .b (ShortDest.operand d) s)) ∧
    (∀ a, Completes (.incW a) s (UpdatesOne (Counts 1) .w (.areg a) s)) ∧
    (∀ a, Completes (.decW a) s (UpdatesOne (Counts (-1)) .w (.areg a) s)) ∧
    (∀ sz dst, (Instr.abs sz dst).wellFormed = true → Completes (.abs sz dst) s (UpdatesOne Absolute sz dst s)) ∧
    Completes (.extsB (.dreg .r0lR0)) s (fun t =>
      (t.word .r0lR0).toInt = (s.byte .r0lR0).toInt ∧ t.flg = signZero s.flg (t.word .r0lR0)) ∧
    Completes (.extsB (.dreg .r1lR2)) s (fun t =>
      (t.word .r0hR1).toInt = (s.byte .r1lR2).toInt ∧ t.flg = signZero s.flg (t.word .r0hR1)) ∧
    (∀ m, Completes (.extsB (.mem m)) s (fun t => ∃ r : Word,
      r.toInt = (readByte s (s.ea m)).1.toInt ∧ Stored t (s.ea m) (wordBytes r) ∧ t.flg = signZero s.flg r)) ∧
    Completes .extsW s (fun t => (t.word .r1lR2 ++ t.word .r0lR0).toInt = (s.word .r0lR0).toInt ∧ t.flg = s.flg)

/-- DADD, DADC, DSUB and DSBB on R0L or R0, with R0H, R1 or an immediate: the packed-BCD result modulo 100 or 10000, C, S and Z (R347 to
R351); with a digit above 9 the result, S, Z and C are free, and the instruction still completes (U6, log 37). -/
def Obligations.DecimalArithmetic : Prop :=
  ∀ s : State,
    let add : Flg → Int → Int → Int := fun _ d x => d + x
    let adc : Flg → Int → Int → Int := fun f d x => d + x + f.c.toNat
    let sub : Flg → Int → Int → Int := fun _ d x => d - x
    let sbb : Flg → Int → Int → Int := fun f d x => d - x - (!f.c).toNat
    let carry : Nat → Int → Bool := fun k t => decide ((10 ^ k : Int) ≤ t)
    let noBorrow : Nat → Int → Bool := fun _ t => decide (0 ≤ t)
    let reg : Law → Size → State → Prop := fun law sz t =>
      UpdatesFrom law sz (.dreg .r0hR1) (.dreg .r0lR0) s t
    (∀ sz, Completes (.daddReg sz) s (reg (ComputesDecimal add carry) sz)) ∧
    (∀ sz, Completes (.dadcReg sz) s (reg (ComputesDecimal adc carry) sz)) ∧
    (∀ sz, Completes (.dsubReg sz) s (reg (ComputesDecimal sub noBorrow) sz)) ∧
    (∀ sz, Completes (.dsbbReg sz) s (reg (ComputesDecimal sbb noBorrow) sz)) ∧
    (∀ v, Completes (.daddImm v) s (UpdatesImm (ComputesDecimal add carry) v (.dreg .r0lR0) s)) ∧
    (∀ v, Completes (.dadcImm v) s (UpdatesImm (ComputesDecimal adc carry) v (.dreg .r0lR0) s)) ∧
    (∀ v, Completes (.dsubImm v) s (UpdatesImm (ComputesDecimal sub noBorrow) v (.dreg .r0lR0) s)) ∧
    (∀ v, Completes (.dsbbImm v) s (UpdatesImm (ComputesDecimal sbb noBorrow) v (.dreg .r0lR0) s))

/-! ### Multiplication, division, sum of products -/

/-- MUL and MULU in every form: the exact double-width product, signed or unsigned, in the place the table of R407 gives (R407 to R411). The
registers of the `.B` rows are DEDUCED (log 38). Words in memory are little-endian (log 30). -/
def Obligations.Multiplications : Prop :=
  ∀ s : State, Memory.wf s.mem = true →
    (∀ sz src dst, (Instr.mulG sz src dst).wellFormed = true →
      Completes (.mulG sz src dst) s (MultipliesFrom true sz src dst s)) ∧
    (∀ sz src dst, (Instr.muluG sz src dst).wellFormed = true →
      Completes (.muluG sz src dst) s (MultipliesFrom false sz src dst s)) ∧
    (∀ v dst, (Instr.mulImm v dst).wellFormed = true → Completes (.mulImm v dst) s (MultipliesImm true v dst s)) ∧
    (∀ v dst, (Instr.muluImm v dst).wellFormed = true → Completes (.muluImm v dst) s (MultipliesImm false v dst s))

/-- DIV, DIVX and DIVU in every form: quotient and remainder with the sign that each rounding gives, and O exactly where the divisor is 0 or the
quotient does not fit (R400 to R406); then quotient and remainder are free. What does not fit is D22 (log 20). -/
def Obligations.Divisions : Prop :=
  ∀ s : State,
    (∀ sz src, Completes (.div sz src) s (DividesFrom .div sz src s)) ∧
    (∀ sz src, Completes (.divx sz src) s (DividesFrom .divx sz src s)) ∧
    (∀ sz src, Completes (.divu sz src) s (DividesFrom .divu sz src s)) ∧
    (∀ v, Completes (.divImm v) s (DividesImm .div v s)) ∧
    (∀ v, Completes (.divxImm v) s (DividesImm .divx v s)) ∧
    (∀ v, Completes (.divuImm v) s (DividesImm .divu v s))

/-- RMPA (R412), one sum of products at a time: with R3 = 0 it is ignored; a sum in range goes to the accumulator, A0, A1 and R3 move on, and the
last one clears O; a sum out of range is stored modulo its width, O is set and the instruction is over, A0, A1 and R3 free. One sum per step is D4
(log 33); the rest of an overflow is DEDUCED (log 39). -/
def Obligations.SumOfProducts : Prop :=
  ∀ (sz : Size) (s : State),
    let sum := accumulator sz s + (factors sz s).1 * (factors sz s).2
    (s.word .r1hR3 = 0 → exec (.rmpa sz) s = .next { s with pc := s.nextPc (.rmpa sz) }) ∧
    (s.word .r1hR3 ≠ 0 → outsideSigned (2 * sz.bits) sum = false → ∃ t, exec (.rmpa sz) s = .next t ∧
      accumulator sz t = sum ∧ NextIteration (.rmpa sz) s t ∧
      t.areg .a0 = s.areg .a0 + elementSize sz ∧ t.areg .a1 = s.areg .a1 + elementSize sz ∧
      t.flg = if s.word .r1hR3 = 1 then { s.flg with o := false } else s.flg) ∧
    (s.word .r1hR3 ≠ 0 → outsideSigned (2 * sz.bits) sum = true →
      Completes (.rmpa sz) s fun t => accumulator sz t = sum.bmod (2 ^ (2 * sz.bits)) ∧ t.flg = { s.flg with o := true })

/-! ### Shifts -/

/-- ROLC and RORC: the rotation by one through C (R301, R302). Words in memory are little-endian (log 30). -/
def Obligations.RotateThroughCarry : Prop :=
  ∀ (s : State) (sz : Size) (dst : Operand), Memory.wf s.mem = true → (Instr.rolc sz dst).wellFormed = true →
    Completes (.rolc sz dst) s (UpdatesOne RotatesCarryLeft sz dst s) ∧
    Completes (.rorc sz dst) s (UpdatesOne RotatesCarryRight sz dst s)

/-- ROT, SHL and SHA by 1 to 8 places: the closed form of the result, C the bit moved out last, S and Z, and for SHA O where the sign has changed
(R300, R303, R305, R309; O by D21, log 19). Words in memory are little-endian (log 30). -/
def Obligations.ShiftsByImmediate : Prop :=
  ∀ (s : State) (sz : Size) (c : ShiftCount) (dst : Operand), Memory.wf s.mem = true → (Instr.rotImm sz c dst).wellFormed = true →
    Completes (.rotImm sz c dst) s (UpdatesOne (Shifts .rot c.right (c.less1.toNat + 1)) sz dst s) ∧
    Completes (.shlImm sz c dst) s (UpdatesOne (Shifts .shl c.right (c.less1.toNat + 1)) sz dst s) ∧
    Completes (.shaImm sz c dst) s (UpdatesOne (Shifts .sha c.right (c.less1.toNat + 1)) sz dst s)

/-- ROT, SHL and SHA by R1H: 0 changes nothing; -n to +n shifts as by an immediate; any other count leaves the destination and the listed flags
free and everything else as the frames say (R300, R304, R306, R310). O after SHA is D21 (log 19), and that a count of 0 makes no access is the
model's reading of R300 (log 36), both DESIGN CHOICE. Words in memory are little-endian (log 30). -/
def Obligations.ShiftsByR1H : Prop :=
  ∀ (s : State) (sz : Size) (dst : Operand), Memory.wf s.mem = true → (Instr.rotR1H sz dst).wellFormed = true →
    let k := (s.byte .r1hR3).toInt
    (k = 0 → exec (.rotR1H sz dst) s = .next { s with pc := s.nextPc (.rotR1H sz dst) } ∧
      exec (.shlR1H sz dst) s = .next { s with pc := s.nextPc (.shlR1H sz dst) } ∧
      exec (.shaR1H sz dst) s = .next { s with pc := s.nextPc (.shaR1H sz dst) }) ∧
    (k ≠ 0 → k.natAbs ≤ sz.bits →
      Completes (.rotR1H sz dst) s (UpdatesOne (Shifts .rot (decide (k < 0)) k.natAbs) sz dst s) ∧
      Completes (.shlR1H sz dst) s (UpdatesOne (Shifts .shl (decide (k < 0)) k.natAbs) sz dst s) ∧
      Completes (.shaR1H sz dst) s (UpdatesOne (Shifts .sha (decide (k < 0)) k.natAbs) sz dst s)) ∧
    (sz.bits < k.natAbs →
      Completes (.rotR1H sz dst) s (UpdatesOne (ShiftsFreely .rot) sz dst s) ∧
      Completes (.shlR1H sz dst) s (UpdatesOne (ShiftsFreely .shl) sz dst s) ∧
      Completes (.shaR1H sz dst) s (UpdatesOne (ShiftsFreely .sha) sz dst s))

/-- SHA.L and SHL.L on R2R0 and R3R1: the closed form of the result at 32 bits, S its bit 31, Z and C free, O unchanged; by R1H, 0 changes
nothing and a count beyond 16 leaves result, S, Z and C free (R300, R307, R308, R311, R312). -/
def Obligations.LongShifts : Prop :=
  ∀ (s : State) (p : Pair),
    let done : ShiftKind → Bool → Nat → State → Prop := fun k right m t =>
      (∃ out, ShiftResult k right m (s.pair p) (t.pair p) out) ∧
      t.flg = { s.flg with s := decide (2 ^ 31 ≤ (t.pair p).toNat), z := t.flg.z, c := t.flg.c }
    let k := (s.byte .r1hR3).toInt
    (∀ c : ShiftCount, Completes (.shaLImm p c) s (done .sha c.right (c.less1.toNat + 1)) ∧
      Completes (.shlLImm p c) s (done .shl c.right (c.less1.toNat + 1))) ∧
    (k = 0 → exec (.shaLR1H p) s = .next { s with pc := s.nextPc (.shaLR1H p) } ∧
      exec (.shlLR1H p) s = .next { s with pc := s.nextPc (.shlLR1H p) }) ∧
    (k ≠ 0 → k.natAbs ≤ 16 → Completes (.shaLR1H p) s (done .sha (decide (k < 0)) k.natAbs) ∧
      Completes (.shlLR1H p) s (done .shl (decide (k < 0)) k.natAbs)) ∧
    (16 < k.natAbs → ∀ i ∈ [Instr.shaLR1H p, Instr.shlLR1H p], Completes i s fun t =>
      t.flg = { s.flg with s := t.flg.s, z := t.flg.z, c := t.flg.c })

/-! ### Transfers -/

/-- MOV and LDE in every form with a general, short or register destination: the source in the destination, zero-extended for `.B` into A0 or A1,
and S and Z of what is stored (R201 to R204, R206 to R212, R227 to R230). Words in memory are little-endian (log 30). -/
def Obligations.Moves : Prop :=
  ∀ s : State, Memory.wf s.mem = true →
    let fromMem : Size → Addr → Operand → State → Prop := fun sz a dst t =>
      match sz with
      | .b => Updates8 Machine.Moves (readByte s a).1 (readByte s a).2 t dst
      | .w => Updates16 Machine.Moves (read16 s a).1 (read16 s a).2 t dst
    (∀ sz src dst, (Instr.movG sz src dst).wellFormed = true →
      Completes (.movG sz src dst) s (UpdatesFrom Machine.Moves sz src dst s)) ∧
    (∀ v dst, Completes (.movGImm v dst) s (UpdatesImm Machine.Moves v dst s)) ∧
    (∀ sz v dst, Completes (.movQ sz v dst) s (UpdatesImm Machine.Moves (quick sz v) dst s)) ∧
    (∀ v d, Completes (.movSImm v d) s (Updates8 Machine.Moves v s · (ShortDest.operand d))) ∧
    (∀ d, Completes (.movZ d) s (Updates8 Machine.Moves 0 s · (ShortDest.operand d))) ∧
    (∀ h m, Completes (.movSHalfDest h m) s
      (UpdatesFrom Machine.Moves .b (.dreg (Half.dreg h)) (ShortMem.operand m) s)) ∧
    (∀ h x, Completes (.movSSrcHalf h x) s
      (UpdatesFrom Machine.Moves .b (ShortSrc.operand h x) (.dreg (Half.dreg h)) s)) ∧
    (∀ a x, Completes (.movSSrcA a x) s (UpdatesFrom Machine.Moves .b (ShortSrc.operandA a x) (.areg a) s)) ∧
    (∀ a v, Completes (.movWSImmA a v) s (Updates16 Machine.Moves v s · (.areg a))) ∧
    (∀ a v, Completes (.movBSImmA a v) s (Updates8 Machine.Moves v s · (.areg a))) ∧
    (∀ sz d dst, Completes (.movFromSp sz d dst) s (fromMem sz (s.eaSp d) dst)) ∧
    (∀ sz a dst, Completes (.ldeAbs20 sz a dst) s (fromMem sz a dst)) ∧
    (∀ sz d dst, Completes (.ldeDsp20 sz d dst) s (fromMem sz (s.eaDsp20 .a0 d) dst)) ∧
    (∀ sz dst, Completes (.ldeA1A0 sz dst) s (fromMem sz s.eaA1A0 dst))

/-- MOV to dsp:8[SP] and STE in every form: the source's bytes at the computed address, S and Z of the source, of all 16 bits where STE.B stores
the low byte of A0 or A1 (R205, R231 to R234). STZ and STNZ write the immediate where Z says so and change nothing but PC where it does not; STZX
writes one of two (R235 to R237). That a false condition makes no access at all is D20 (log 36, DESIGN CHOICE). Words in memory are little-endian
(log 30). -/
def Obligations.Stores : Prop :=
  ∀ s : State, Memory.wf s.mem = true →
    let bytes : Size → Operand → List Byte := fun sz src =>
      match sz with
      | .b => [(readSrc8 s src).1]
      | .w => wordBytes (readSrc16 s src).1
    let flags : Size → Operand → Flg := fun sz src =>
      match sz with
      | .b => signZero s.flg (readSrc8 s src).1
      | .w => signZero s.flg (readSrc16 s src).1
    let ste : Size → Operand → Addr → State → Prop := fun sz src a t =>
      Stored t a (bytes sz src) ∧ t.flg = match src with
        | .areg r => signZero s.flg (s.areg r)
        | _ => flags sz src
    (∀ sz src d, Completes (.movToSp sz src d) s fun t => Stored t (s.eaSp d) (bytes sz src) ∧ t.flg = flags sz src) ∧
    (∀ sz src a, Completes (.steAbs20 sz src a) s (ste sz src a)) ∧
    (∀ sz src d, Completes (.steDsp20 sz src d) s (ste sz src (s.eaDsp20 .a0 d))) ∧
    (∀ sz src, Completes (.steA1A0 sz src) s (ste sz src s.eaA1A0)) ∧
    (∀ (v w : Byte) (d : ShortDest),
      (s.flg.z = true → Completes (.stz v d) s (Updates8 Copies v s · (ShortDest.operand d)) ∧
        exec (.stnz v d) s = .next { s with pc := s.nextPc (.stnz v d) } ∧
        Completes (.stzx v w d) s (Updates8 Copies v s · (ShortDest.operand d))) ∧
      (s.flg.z = false → Completes (.stnz v d) s (Updates8 Copies v s · (ShortDest.operand d)) ∧
        exec (.stz v d) s = .next { s with pc := s.nextPc (.stz v d) } ∧
        Completes (.stzx v w d) s (Updates8 Copies w s · (ShortDest.operand d))))

/-- XCHG exchanges; MOVDir moves one nibble and keeps the other; MOVA gives the effective address without an access (R213 to R216, R238). Words in
memory are little-endian (log 30). -/
def Obligations.ExchangeNibbleAddress : Prop :=
  ∀ s : State, Memory.wf s.mem = true →
    (∀ r dst, Completes (.xchg .b r dst) s fun t =>
      Updates8 Copies (s.byte r) (readSrc8 s dst).2 t dst ∧ t.byte r = (readSrc8 s dst).1) ∧
    (∀ r dst, Completes (.xchg .w r dst) s fun t =>
      Updates16 Copies (s.word r) (readSrc16 s dst).2 t dst ∧ t.word r = (readSrc16 s dst).1) ∧
    (∀ dir src, (Instr.movDirToR0L dir src).wellFormed = true → Completes (.movDirToR0L dir src) s fun t =>
      (t.byte .r0lR0).toNat = nibbles dir (readSrc8 s src).1 (s.byte .r0lR0) ∧ t.flg = s.flg) ∧
    (∀ dir dst, (Instr.movDirFromR0L dir dst).wellFormed = true →
      Completes (.movDirFromR0L dir dst) s (UpdatesFrom (MovesNibble dir) .b (.dreg .r0lR0) dst s)) ∧
    (∀ m r, (Instr.mova m (.dreg r)).wellFormed = true → Completes (.mova m (.dreg r)) s fun t =>
      (t.word r).toNat = (s.ea m).toNat ∧ t.platformLog = s.platformLog ∧ t.mem = s.mem) ∧
    (∀ m a, (Instr.mova m (.areg a)).wellFormed = true → Completes (.mova m (.areg a)) s fun t =>
      (t.areg a).toNat = (s.ea m).toNat ∧ t.platformLog = s.platformLog ∧ t.mem = s.mem)

/-- The pushes: SP moves down by the size, and the source lies there, low byte first; PUSHA pushes the effective address, PUSHC the control
register as it was before SP moved (R221 to R225, R530, R554). The pops: the destination takes what the stack holds, SP moves up by the size, no
flag changes (R217 to R219). That PUSHC pushes INTBH zero-extended is D8 (log 25), and FLG with its reserved bits 0 is D9 (log 13), both DESIGN
CHOICE. Words in memory are little-endian (log 30). -/
def Obligations.PushesAndPops : Prop :=
  ∀ s : State, Memory.wf s.mem = true →
    let b := readByte s (zext20 s.sp)
    let w := read16 s (zext20 s.sp)
    let byteAt : Byte → State → Prop := fun v t => t.sp = s.sp - 1 ∧ Stored t (zext20 (s.sp - 1)) [v]
    let wordAt : Word → State → Prop := fun v t => t.sp = s.sp - 2 ∧ Stored t (zext20 (s.sp - 2)) (wordBytes v)
    (∀ src, Completes (.pushG .b src) s (byteAt (readSrc8 s src).1)) ∧
    (∀ src, Completes (.pushG .w src) s (wordAt (readSrc16 s src).1)) ∧
    (∀ v, Completes (.pushImm (.b v)) s (byteAt v)) ∧ (∀ v, Completes (.pushImm (.w v)) s (wordAt v)) ∧
    (∀ h, Completes (.pushBS h) s (byteAt (s.byte (Half.dreg h)))) ∧
    (∀ a, Completes (.pushWS a) s (wordAt (s.areg a))) ∧
    (∀ m, (Instr.pusha m).wellFormed = true →
      Completes (.pusha m) s fun t => ∃ v : Word, v.toNat = (s.ea m).toNat ∧ wordAt v t) ∧
    (∀ c, Completes (.pushc c) s fun t => ∃ v : Word, v.toNat = cregValue s c ∧ wordAt v t) ∧
    (∀ dst, (Instr.popG .b dst).wellFormed = true →
      Completes (.popG .b dst) s fun t => t.sp = s.sp + 1 ∧ Updates8 Copies b.1 b.2 t dst) ∧
    (∀ dst, Completes (.popG .w dst) s fun t => t.sp = s.sp + 2 ∧ Updates16 Copies w.1 w.2 t dst) ∧
    (∀ h, Completes (.popBS h) s fun t => t.sp = s.sp + 1 ∧ t.byte (Half.dreg h) = b.1 ∧ t.flg = s.flg) ∧
    (∀ a, Completes (.popWS a) s fun t => t.sp = s.sp + 2 ∧ t.areg a = w.1 ∧ t.flg = s.flg)

/-- PUSHM leaves the selected registers as words from the new SP up, R0 first and FB last; POPM loads them from there; SP moves by two for each
(R220, R226). Words in memory are little-endian (log 30). -/
def Obligations.RegisterLists : Prop :=
  ∀ (s : State) (l : RegList), Memory.wf s.mem = true →
    (Completes (.pushm l) s fun t =>
      t.sp = s.sp - BitVec.ofNat 16 (2 * RegList.count l) ∧ HoldsRegs s t l t.sp) ∧
    (Completes (.popm l) s fun t =>
      t.sp = s.sp + BitVec.ofNat 16 (2 * RegList.count l) ∧ LoadsRegs s t l s.sp)

/-- POPM of the same registers undoes PUSHM on a stack in writable memory: every register, both stack pointers and the flags are back
(R70, R220, R226). -/
def Obligations.PopmUndoesPushm : Prop :=
  ∀ (l : RegList) (s t : State), Memory.wf s.mem = true → exec (.pushm l) s = .next t → (∀ a ∈ Instr.stores s (.pushm l), s.layout.isWritable a = true) →
    ∃ u, exec (.popm l) t = .next u ∧ u.bank0 = s.bank0 ∧ u.bank1 = s.bank1 ∧ u.sb = s.sb ∧ u.usp = s.usp ∧ u.isp = s.isp ∧
      u.flg = s.flg

/-! ### Bits -/

/-- BAND, BNAND, BOR, BNOR, BXOR and BNXOR combine the bit with C; BTST and BNTST set Z and C from it (R261, R266, R267, R270 to R272, R275 to
R277). -/
def Obligations.BitTests : Prop :=
  ∀ s : State,
    (∀ x : BitOperand,
      let b := bitValue s (s.bitPlace x)
      Completes (.band x) s (fun t => t.flg = { s.flg with c := b && s.flg.c }) ∧
      Completes (.bnand x) s (fun t => t.flg = { s.flg with c := !b && s.flg.c }) ∧
      Completes (.bor x) s (fun t => t.flg = { s.flg with c := b || s.flg.c }) ∧
      Completes (.bnor x) s (fun t => t.flg = { s.flg with c := !b || s.flg.c }) ∧
      Completes (.bxor x) s (fun t => t.flg = { s.flg with c := xor b s.flg.c }) ∧
      Completes (.bnxor x) s (fun t => t.flg = { s.flg with c := xor (!b) s.flg.c }) ∧
      Completes (.btstG x) s (fun t => t.flg = { s.flg with z := !b, c := b }) ∧
      Completes (.bntst x) s (fun t => t.flg = { s.flg with z := !b, c := !b })) ∧
    (∀ k d, Completes (.btstS k d) s fun t =>
      t.flg = { s.flg with z := !bitValue s (s.bitPlaceS k d), c := bitValue s (s.bitPlaceS k d) })

/-- BCLR, BSET, BNOT, BTSTC, BTSTS and BMCnd write the designated bit and keep the other bits of its register or byte; BTSTC and BTSTS put the
old bit into Z and C; BMCnd C writes C (R260, R262 to R265, R268, R269, R273, R274, R279, R280). That a bit in memory is one byte read and the same
byte written, always, is D15 (log 36, DESIGN CHOICE). -/
def Obligations.BitWrites : Prop :=
  ∀ s : State, Memory.wf s.mem = true →
    (∀ x : BitOperand,
      let p := s.bitPlace x
      let old := { s.flg with z := !bitValue s p, c := bitValue s p }
      Completes (.bclrG x) s (fun t => PutsBit (fun _ => false) s t p ∧ t.flg = s.flg) ∧
      Completes (.bsetG x) s (fun t => PutsBit (fun _ => true) s t p ∧ t.flg = s.flg) ∧
      Completes (.bnotG x) s (fun t => PutsBit not s t p ∧ t.flg = s.flg) ∧
      Completes (.btstc x) s (fun t => PutsBit (fun _ => false) s t p ∧ t.flg = old) ∧
      Completes (.btsts x) s (fun t => PutsBit (fun _ => true) s t p ∧ t.flg = old) ∧
      (∀ c, Completes (.bmcnd c x) s fun t => PutsBit (fun _ => condHolds c s.flg) s t p ∧ t.flg = s.flg)) ∧
    (∀ k d,
      let p := s.bitPlaceS k d
      Completes (.bclrS k d) s (fun t => PutsBit (fun _ => false) s t p ∧ t.flg = s.flg) ∧
      Completes (.bsetS k d) s (fun t => PutsBit (fun _ => true) s t p ∧ t.flg = s.flg) ∧
      Completes (.bnotS k d) s (fun t => PutsBit not s t p ∧ t.flg = s.flg)) ∧
    (∀ c, Completes (.bmcndC c) s fun t => t.flg = { s.flg with c := condHolds c s.flg })

/-! ### Jumps, calls, returns -/

/-- JMP, JCnd, JMPS and JMPI: PC takes the target, modulo 2^20, and nothing but PC changes where no memory operand is read (R465 to R478). That
JMPI.A drops bits 31:20 is D13 (log 23), that PC goes on modulo 2^20 where a condition is false is D7 (log 24), both DESIGN CHOICE; the words read
are little-endian (log 30). -/
def Obligations.Jumps : Prop :=
  ∀ s : State,
    let go : Int → State := fun a => { s with pc := BitVec.ofInt 20 a }
    (∀ d, exec (.jmpS d) s = .next (go (s.pc.toNat + 2 + d.toNat))) ∧
    (∀ d, exec (.jmpB d) s = .next (go (s.pc.toNat + 1 + d.toInt))) ∧
    (∀ d, exec (.jmpW d) s = .next (go (s.pc.toNat + 1 + d.toInt))) ∧
    (∀ a, exec (.jmpA a) s = .next (go a.toNat)) ∧
    (∀ c d, (Instr.jcndShort c d).wellFormed = true →
      exec (.jcndShort c d) s = .next (go (if condHolds c s.flg then s.pc.toNat + 1 + d.toInt else s.pc.toNat + 2))) ∧
    (∀ c d, (Instr.jcndLong c d).wellFormed = true →
      exec (.jcndLong c d) s = .next (go (if condHolds c s.flg then s.pc.toNat + 2 + d.toInt else s.pc.toNat + 3))) ∧
    (∀ n, (Instr.jmps n).wellFormed = true → exec (.jmps n) s = .next (go (0xF0000 +
      (s.peek (0xFFFFE - BitVec.ofNat 20 (2 * n.toNat))).toNat +
      256 * (s.peek (0xFFFFE - BitVec.ofNat 20 (2 * n.toNat) + 1)).toNat))) ∧
    (∀ r, exec (.jmpiW (.dreg r)) s = .next (go (s.pc.toNat + (s.word r).toInt))) ∧
    (∀ a, exec (.jmpiW (.areg a)) s = .next (go (s.pc.toNat + (s.areg a).toInt))) ∧
    (∀ m, (Instr.jmpiW (.mem m)).wellFormed = true →
      CompletesAt (.jmpiW (.mem m)) s (BitVec.ofInt 20 (s.pc.toNat + (read16 s (s.eaInd m)).1.toInt)) fun _ => True) ∧
    (∀ p, exec (.jmpiA (.pair p)) s = .next (go ((s.apair p).toNat % 2 ^ 20))) ∧
    (∀ m, (Instr.jmpiA (.mem m)).wellFormed = true →
      CompletesAt (.jmpiA (.mem m)) s (BitVec.ofNat 20 (read24 s (s.eaInd m)).1.toNat) fun _ => True)

/-- ADJNZ and SBJNZ: the sum or the difference in the destination, no flag, and the jump exactly if it is not 0 (R461, R462). Words in memory are
little-endian (log 30). -/
def Obligations.AddAndJump : Prop :=
  ∀ (s : State) (sz : Size) (v : BitVec 4) (dst : Operand) (d : Byte), Memory.wf s.mem = true →
    let sum : BitVec 4 → Int := fun v =>
      match sz with
      | .b => ((readSrc8 s dst).1.toNat + v.toInt) % 256
      | .w => ((readSrc16 s dst).1.toNat + v.toInt) % 65536
    let target : Instr → BitVec 4 → Addr := fun i v =>
      if sum v ≠ 0 then BitVec.ofInt 20 (s.pc.toNat + 2 + d.toInt) else s.nextPc i
    ((Instr.adjnz sz v dst d).wellFormed = true →
      CompletesAt (.adjnz sz v dst d) s (target (.adjnz sz v dst d) v) (UpdatesImm AddsQuietly (quick sz v) dst s)) ∧
    ((Instr.sbjnz sz v dst d).wellFormed = true →
      CompletesAt (.sbjnz sz v dst d) s (target (.sbjnz sz v dst d) (-v)) (UpdatesImm AddsQuietly (quick sz (-v)) dst s))

/-- R460: `pushRet` writes bits 19:16 as a byte one below SP, then the low word two below that, and SP moves down by three; `popRet` reads the
word at SP, then the byte two above, of which the upper four bits are ignored, and SP moves up by three. It takes back what `pushRet` has left on
a stack in writable memory. The four zero bits and the four ignored ones are D13 (log 23, DESIGN CHOICE). -/
def Obligations.ReturnAddressHelpers : Prop :=
  ∀ (s : State) (a : Addr), Memory.wf s.mem = true →
    let lo := BitVec.ofNat 8 a.toNat
    let mid := BitVec.ofNat 8 (a.toNat / 256)
    let top := BitVec.ofNat 8 (a.toNat / 65536)
    ((pushRet s a).sp = s.sp - 3 ∧ ReturnBelow (pushRet s a) s.sp a ∧
      (pushRet s a).platformLog = deviceWrites s.layout (zext20 (s.sp - 3)) [lo, mid] ++
        deviceWrites s.layout (zext20 (s.sp - 1)) [top] ++ s.platformLog) ∧
    (let w := read16 s (zext20 s.sp)
     let h := readByte w.2 (zext20 (s.sp + 2))
     (popRet s).1.toNat = w.1.toNat + 65536 * (h.1.toNat % 16) ∧ (popRet s).2 = h.2.setSp (s.sp + 3)) ∧
    ((∀ b, b ∈ returnBelow s.sp → s.layout.isWritable b = true) → (popRet (pushRet s a)).1 = a ∧ (popRet (pushRet s a)).2.sp = s.sp)

/-- JSR, JSRI and JSRS: the address of the next instruction lies on the stack, SP is three lower, PC takes the target; JSRI reads its operand
before the push (R480 to R484). The zero upper nibble of the third stacked byte and the bits 31:20 that JSRI.A drops are D13 (log 23), the return
address modulo 2^20 is D7 (log 24), both DESIGN CHOICE. Words in memory are little-endian (log 30). -/
def Obligations.Calls : Prop :=
  ∀ s : State, Memory.wf s.mem = true →
    let called : Instr → State → Prop := fun i t => t.sp = s.sp - 3 ∧ ReturnBelow t s.sp (s.nextPc i) ∧ t.flg = s.flg
    (∀ d, CompletesAt (.jsrW d) s (BitVec.ofInt 20 (s.pc.toNat + 1 + d.toInt)) (called (.jsrW d))) ∧
    (∀ a, CompletesAt (.jsrA a) s a (called (.jsrA a))) ∧
    (∀ n, (Instr.jsrs n).wellFormed = true → CompletesAt (.jsrs n) s (BitVec.ofNat 20 (0xF0000 +
      (s.peek (0xFFFFE - BitVec.ofNat 20 (2 * n.toNat))).toNat +
      256 * (s.peek (0xFFFFE - BitVec.ofNat 20 (2 * n.toNat) + 1)).toNat)) (called (.jsrs n))) ∧
    (∀ r, CompletesAt (.jsriW (.dreg r)) s (BitVec.ofInt 20 (s.pc.toNat + (s.word r).toInt)) (called (.jsriW (.dreg r)))) ∧
    (∀ a, CompletesAt (.jsriW (.areg a)) s (BitVec.ofInt 20 (s.pc.toNat + (s.areg a).toInt)) (called (.jsriW (.areg a)))) ∧
    (∀ m, (Instr.jsriW (.mem m)).wellFormed = true → CompletesAt (.jsriW (.mem m)) s
      (BitVec.ofInt 20 (s.pc.toNat + (read16 s (s.eaInd m)).1.toInt)) (called (.jsriW (.mem m)))) ∧
    (∀ p, CompletesAt (.jsriA (.pair p)) s (BitVec.ofNat 20 (s.apair p).toNat) (called (.jsriA (.pair p)))) ∧
    (∀ m, (Instr.jsriA (.mem m)).wellFormed = true → CompletesAt (.jsriA (.mem m)) s
      (BitVec.ofNat 20 (read24 s (s.eaInd m)).1.toNat) (called (.jsriA (.mem m))))

/-- RTS from every state pops three bytes; after any call on a stack in writable memory it comes back to the instruction after the call with
every register, both stack pointers and the flags as before the call (R460, R485). That RTS ignores the upper four bits of the third byte
is D13 (log 23, DESIGN CHOICE). -/
def Obligations.ReturnUndoesCall : Prop :=
  (∀ s : State, ∃ t, exec .rts s = .next t ∧ t.sp = s.sp + 3 ∧
    ((∀ b, b ∈ returnBelow (s.sp + 3) → s.layout.inImage b = true) →
      t.pc.toNat = (s.peek (zext20 s.sp)).toNat + 256 * (s.peek (zext20 s.sp + 1)).toNat +
        65536 * ((s.peek (zext20 (s.sp + 2))).toNat % 16))) ∧
  (∀ (i : Instr) (s t : State), Memory.wf s.mem = true → Instr.isCall i = true → exec i s = .next t →
    (∀ a ∈ returnBelow s.sp, s.layout.isWritable a = true) →
    ∃ u, exec .rts t = .next u ∧ u.pc = s.nextPc i ∧ u.bank0 = s.bank0 ∧ u.bank1 = s.bank1 ∧ u.sb = s.sb ∧ u.usp = s.usp ∧
      u.isp = s.isp ∧ u.flg = s.flg)

/-- ENTER saves FB below SP, makes FB point to it and reserves the frame; EXITD restores FB and returns; EXITD after ENTER is RTS with FB back
(R522, R523). That EXITD ignores the upper four bits of the third return byte is D13 (log 23, DESIGN CHOICE). Words in memory are little-endian (log
30). -/
def Obligations.StackFrames : Prop :=
  (∀ (s : State) (n : Byte), Memory.wf s.mem = true → Completes (.enter n) s fun t =>
    t.fb = s.sp - 2 ∧ t.sp = s.sp - 2 - BitVec.ofNat 16 n.toNat ∧ Stored t (zext20 (s.sp - 2)) (wordBytes s.fb)) ∧
  (∀ s : State, ∃ t, exec .exitd s = .next t ∧ t.sp = s.fb + 5 ∧
    ((∀ a ∈ bytesFrom (zext20 s.fb) 2 ++ returnBelow (s.fb + 5), s.layout.inImage a = true) →
      t.fb = s.peek (zext20 s.fb + 1) ++ s.peek (zext20 s.fb) ∧
      t.pc.toNat = (s.peek (zext20 (s.fb + 2))).toNat + 256 * (s.peek (zext20 (s.fb + 2) + 1)).toNat +
        65536 * ((s.peek (zext20 (s.fb + 4))).toNat % 16))) ∧
  (∀ (s t : State) (n : Byte), Memory.wf s.mem = true → exec (.enter n) s = .next t →
    (∀ a ∈ wordBelow s.sp, s.layout.isWritable a = true) → (∀ a ∈ returnBelow (s.sp + 3), s.layout.inImage a = true) →
    ∃ u v, exec .exitd t = .next u ∧ exec .rts s = .next v ∧ u.pc = v.pc ∧ u.sp = v.sp ∧ u.fb = s.fb)

/-! ### Interrupts -/

/-- BRK, INT, INTO and UND take their interrupt with the address of the next instruction, old FLG in the frame, no change of IPL; BRK goes through
entry 0 of the variable table if its own vector is all FFh (entry 0: PRESUMED, log 26); INTO with O = 0 goes on (R520, R521, R526, R527, R570,
R620, R621). The nibbles of the third and fourth frame byte are PRESUMED (log 27); that the I of acceptance is 0 afterwards is DEDUCED (log 14); that
the vector is read after the pushes (log 40), that its bits 31:20 are ignored (D13, log 23) and that INTB + 4n and the return address wrap (D7, log
24) are DESIGN CHOICE. -/
def Obligations.SoftwareInterrupts : Prop :=
  ∀ s : State, Memory.wf s.mem = true →
    (∀ n, ∃ t, exec (.int n) s = .next t ∧
      Entered s t (BitVec.ofNat 20 (s.intb.toNat + 4 * n.toNat)) (s.pc + 2) (decide (n.toNat ≤ 31)) none) ∧
    (∃ t, exec .und s = .next t ∧ Entered s t 0xFFFDC (s.pc + 1) true none) ∧
    (s.flg.o = true → ∃ t, exec .into s = .next t ∧ Entered s t 0xFFFE0 (s.pc + 1) true none) ∧
    (s.flg.o = false → exec .into s = .next { s with pc := s.pc + 1 }) ∧
    (∃ t, exec .brk s = .next t ∧
      Entered s t (if (∀ a ∈ bytesFrom 0xFFFE4 4, s.peek a = 0xFF) then s.intb else 0xFFFE4) (s.pc + 1) true none)

/-- At an open boundary the acceptable request of highest priority is taken: its vector, its level, its latch or request bit cleared, the halt
ended (R605 to R609, R614, R615, R620 to R623). That acceptance clears the latch is D25 (log 11, DESIGN CHOICE), that
the boundary is closed to a second request is DEDUCED (log 15), and the frame is PRESUMED (log 27). That an address match is taken in place of the instruction and stacks its address is D24 (log 18), what a halt
stacks D2 (log 41), the vector read after the pushes log 40, its bits 31:20 D13 (log 23), the wrap of INTB + 4n D7 (log
24), the clearing of the single-step request log 16, each DESIGN CHOICE; that the I of acceptance is 0 afterwards is log 14 (DEDUCED). -/
def Obligations.HardwareInterrupts : Prop :=
  ∀ (s : State) (h : Hardware), Memory.wf s.mem = true → s.boundaryOpen → s.winner = some h →
    ∃ t, step s = .next t ∧ t.waiting = false ∧ t.boundaryTaken = true ∧
      match h with
      | .nmi => Entered s t 0xFFFF8 s.pc true (some 7) ∧ t.req.nmi = false
      | .dbc => Entered s t 0xFFFF4 s.pc true none ∧ t.req.dbc = false
      | .watchdog => Entered s t 0xFFFF0 s.pc true (some 7) ∧ t.req.wdt = false
      | .peripheral n => Entered s t (BitVec.ofNat 20 (s.intb.toNat + 4 * n)) s.pc true (some (s.level n)) ∧
          t.req.ir.getLsbD n = false
      | .singleStep => Entered s t 0xFFFEC s.pc true none ∧ t.stepReq = false
      | .addressMatch => Entered s t 0xFFFE8 s.pc true none

/-- The winner is requested and acceptable and goes before every other such request; there is none only if nothing is requested and acceptable
(R611, R612, R614). The order of the peripheral sources is a parameter (log 17); no address match while halted (log 18). -/
def Obligations.HighestPriorityWins : Prop :=
  ∀ s : State,
    (∀ h, s.winner = some h → s.requests h ∧ ∀ k, s.requests k → k ≠ h → s.goesBefore h k) ∧
    (s.winner = none → ∀ h, ¬ s.requests h)

/-- With no acceptable request at an open boundary a halted CPU stays as it is; WAIT halts and does nothing else; NOP does nothing (R545, R580,
R615). PC after WAIT is D2 (log 41). -/
def Obligations.Halting : Prop :=
  (∀ s : State, s.boundaryOpen → s.winner = none → s.waiting = true → step s = .next s) ∧
  (∀ s : State, exec .wait s = .next { s with waiting := true, pc := s.pc + 2 }) ∧
  (∀ s : State, exec .nop s = .next { s with pc := s.pc + 1 })

/-- The I that acceptance uses at the boundary after an instruction is I as it stood when the instruction began, after REIT I as REIT leaves it,
after an interrupt sequence 0, be it a hardware interrupt's or a software interrupt's; and acceptance uses that I (R612, R670). That a software
interrupt counts as an interrupt sequence here, and not as an instruction that leaves the I it began with, is DEDUCED (log 14). -/
def Obligations.InterruptEnableTiming : Prop :=
  (∀ (s t : State) (i : Instr) (rest : List Byte), s.runsInstr → decode (s.fetch s.pc fetchLength) = .ok (i, rest) → step s = .next t →
    t.iAccept = match i with
      | .reit => t.flg.i
      | .brk => false
      | .und => false
      | .int _ => false
      | .into => s.flg.i && !s.flg.o
      | _ => s.flg.i) ∧
  (∀ (s t : State) (h : Hardware), s.boundaryOpen → s.winner = some h → step s = .next t → t.iAccept = false) ∧
  (∀ (s : State) (n : Nat), s.acceptable n = true →
    s.iAccept = true ∧ s.req.ir.getLsbD n = true ∧ s.flg.ipl.toNat < (s.level n).toNat)

/-- REIT takes PC and FLG from the four bytes at the SP that U selects when it begins, and moves that SP up by four (R560). It undoes every
interrupt entry, software or hardware, whose frame lies in writable memory: PC, all flags, IPL and both stack pointers are back (R620, R621,
R624, R630). The frame is PRESUMED (log 27); that the reserved bits of FLG stay 0 is D9 (log 13, DESIGN CHOICE). -/
def Obligations.ReturnUndoesEntry : Prop :=
  (∀ s : State, ∃ t, exec .reit s = .next t ∧ t.iAccept = t.flg.i ∧
    (if s.flg.u then t.usp = s.usp + 4 ∧ t.isp = s.isp else t.isp = s.isp + 4 ∧ t.usp = s.usp) ∧
    ((∀ a ∈ frameBelow (s.sp + 4), s.layout.inImage a = true) →
      t.pc.toNat = (s.peek (zext20 s.sp)).toNat + 256 * (s.peek (zext20 s.sp + 1)).toNat +
        65536 * ((s.peek (zext20 (s.sp + 2) + 1)).toNat % 16) ∧
      Flg.toWord t.flg = (s.peek (zext20 (s.sp + 2) + 1) ++ s.peek (zext20 (s.sp + 2))) &&& 0x70FF)) ∧
  (∀ (s t : State) (vec ret : Addr) (clearU : Bool) (lvl : Option (BitVec 3)), Memory.wf s.mem = true →
    t = interruptSequence s vec ret clearU lvl →
    (∀ a ∈ frameBelow (if !clearU && s.flg.u then s.usp else s.isp), s.layout.isWritable a = true) →
    ∃ u, exec .reit t = .next u ∧ u.pc = ret ∧ u.flg = s.flg ∧ u.usp = s.usp ∧ u.isp = s.isp ∧ u.bank0 = s.bank0 ∧
      u.bank1 = s.bank1 ∧ u.sb = s.sb ∧ u.intb = s.intb)

/-! ### Flags, control registers, task context -/

/-- FSET and FCLR write one flag and keep the others and IPL; LDIPL writes IPL and keeps the flags (R524, R525, R541). -/
def Obligations.FlagInstructions : Prop :=
  ∀ s : State,
    (∀ f, Completes (.fset f) s fun t => t.flg.ipl = s.flg.ipl ∧
      ∀ g, Flg.flag t.flg g = (if g = f then true else Flg.flag s.flg g)) ∧
    (∀ f, Completes (.fclr f) s fun t => t.flg.ipl = s.flg.ipl ∧
      ∀ g, Flg.flag t.flg g = (if g = f then false else Flg.flag s.flg g)) ∧
    (∀ l, Completes (.ldipl l) s fun t => t.flg = { s.flg with ipl := l })

/-- LDC and POPC load a control register as R530 says and set the one-shot inhibit; POPC moves the SP it has read from up by two unless that SP is
its destination; STC stores what the register reads as (R530, R535 to R537, R553, R565). STC PC stores the address of the next instruction,
zero-filled (R566; that value by D5, log 22, the zeros by D13, log 23). INTBH and the reserved bits of FLG are those of D8 and D9 (log 25, log
13). Words in memory are little-endian (log 30). -/
def Obligations.ControlRegisters : Prop :=
  ∀ s : State, Memory.wf s.mem = true →
    (∀ c : CReg,
      (∀ src, Completes (.ldc c src) s fun t => LoadsCreg s t (readSrc16 s src).1 c ∧ t.inhibitOnce = true) ∧
      (∀ v, Completes (.ldcImm c v) s fun t => LoadsCreg s t v c ∧ t.inhibitOnce = true) ∧
      (Completes (.popc c) s fun t =>
        LoadsCreg s t (read16 s (zext20 s.sp)).1 c ∧ t.inhibitOnce = true ∧
        (c ≠ .sp → (if s.flg.u then t.usp = s.usp + 2 else c ≠ .isp → t.isp = s.isp + 2))) ∧
      (∀ dst, Completes (.stc c dst) s fun t => ∃ v : Word, v.toNat = cregValue s c ∧ Updates16 Copies v s t dst)) ∧
    (∀ p, Completes (.stcPc (.pair p)) s fun t => (t.apair p).toNat = (s.pc.toNat + 2) % 2 ^ 20) ∧
    (∀ m, Completes (.stcPc (.mem m)) s fun t => Stored t (s.ea m) (addrBytes (s.nextPc (.stcPc (.mem m)))))

/-- LDCTX loads the registers of the table entry's list from SP up and then moves SP by the correction value; STCTX stores them below SP and moves
SP down; the entry is at twice the task number from the base (R538, R567; the list's layout is PRESUMED, log 28). Words in memory are
little-endian (log 30). -/
def Obligations.TaskContext : Prop :=
  ∀ (s : State) (n : Word) (base : Addr), Memory.wf s.mem = true →
    let l := (readContext s n base).1.1
    let corr := (readContext s n base).1.2
    (Completes (.ldctx n base) s fun t => t.sp = s.sp + corr ∧ LoadsRegs s t l s.sp ∧ t.flg = s.flg) ∧
    (Completes (.stctx n base) s fun t => t.sp = s.sp - corr ∧
      HoldsRegs s t l (s.sp - BitVec.ofNat 16 (2 * RegList.count l)) ∧ t.flg = s.flg) ∧
    (let task := s.peek (zext20 n)
     let entry := base + BitVec.ofNat 20 (2 * task.toNat)
     s.layout.inImage (zext20 n) = true → s.layout.inImage entry = true → s.layout.inImage (entry + 1) = true →
       corr.toNat = (s.peek (entry + 1)).toNat ∧ RegList.popmByte l = s.peek entry)

/-! ### Strings -/

/-- SMOVF and SMOVB, one element at a time: with R3 = 0 ignored; else the element at R1H:A0 goes to A1, the pointers move by its size, R1H takes
the carry or borrow out of A0, R3 counts down (R500 to R503). One element per step is D4 (log 33), and that bits 7:4 of R1H take no part in the
source address is D13 (log 23, DESIGN CHOICE). Words in memory are little-endian (log 30). -/
def Obligations.StringMoves : Prop :=
  ∀ (s : State) (sz : Size), Memory.wf s.mem = true →
    let src : Addr := BitVec.ofNat 20 ((s.byte .r1hR3).toNat % 16 * 65536 + (s.areg .a0).toNat)
    (s.word .r1hR3 = 0 → exec (.smovf sz) s = .next { s with pc := s.nextPc (.smovf sz) } ∧
      exec (.smovb sz) s = .next { s with pc := s.nextPc (.smovb sz) }) ∧
    (s.word .r1hR3 ≠ 0 →
      (∃ t, exec (.smovf sz) s = .next t ∧ NextIteration (.smovf sz) s t ∧
        Stored t (zext20 (s.areg .a1)) (elementBytes sz s src) ∧
        t.areg .a0 = s.areg .a0 + elementSize sz ∧ t.areg .a1 = s.areg .a1 + elementSize sz ∧
        t.byte .r1hR3 = if 65536 ≤ (s.areg .a0).toNat + sizeBytes sz then s.byte .r1hR3 + 1 else s.byte .r1hR3) ∧
      (∃ t, exec (.smovb sz) s = .next t ∧ NextIteration (.smovb sz) s t ∧
        Stored t (zext20 (s.areg .a1)) (elementBytes sz s src) ∧
        t.areg .a0 = s.areg .a0 - elementSize sz ∧ t.areg .a1 = s.areg .a1 - elementSize sz ∧
        t.byte .r1hR3 = if (s.areg .a0).toNat < sizeBytes sz then s.byte .r1hR3 - 1 else s.byte .r1hR3))

/-- SSTR, `.B` and `.W`, runs R3 times and no more: on a destination in writable memory every element of the string is the store data, A1 has moved on,
R3 is 0, PC is at the next instruction (R500, R504). With R3 = 0 it is ignored. One element per step is D4 (log 33). Words in memory are little-endian (log
30). -/
def Obligations.StringStore : Prop :=
  (∀ (s : State) (sz : Size), s.word .r1hR3 = 0 → exec (.sstr sz) s = .next { s with pc := s.nextPc (.sstr sz) }) ∧
  (∀ (s : State) (sz : Size), Memory.wf s.mem = true → s.word .r1hR3 ≠ 0 → ∃ t, exec (.sstr sz) s = .next t ∧ NextIteration (.sstr sz) s t ∧
    t.areg .a1 = s.areg .a1 + elementSize sz ∧ Stored t (zext20 (s.areg .a1)) (match sz with
      | .b => [s.byte .r0lR0]
      | .w => wordBytes (s.word .r0lR0))) ∧
  (∀ s : State, Memory.wf s.mem = true → s.word .r1hR3 ≠ 0 →
    (∀ j, j < (s.word .r1hR3).toNat → s.layout.isWritable (zext20 (s.areg .a1 + BitVec.ofNat 16 j)) = true) →
    ∃ t, runRepeat (.sstr .b) (s.word .r1hR3).toNat s = some t ∧ t.pc = s.nextPc (.sstr .b) ∧ t.word .r1hR3 = 0 ∧
      t.areg .a1 = s.areg .a1 + s.word .r1hR3 ∧
      ∀ j, j < (s.word .r1hR3).toNat → t.peek (zext20 (s.areg .a1 + BitVec.ofNat 16 j)) = s.byte .r0lR0) ∧
  (∀ s : State, Memory.wf s.mem = true → s.word .r1hR3 ≠ 0 →
    (∀ j, j < (s.word .r1hR3).toNat → s.layout.isWritable (zext20 (s.areg .a1 + BitVec.ofNat 16 (2 * j))) = true ∧
      s.layout.isWritable (zext20 (s.areg .a1 + BitVec.ofNat 16 (2 * j)) + 1) = true) →
    ∃ t, runRepeat (.sstr .w) (s.word .r1hR3).toNat s = some t ∧ t.pc = s.nextPc (.sstr .w) ∧ t.word .r1hR3 = 0 ∧
      t.areg .a1 = s.areg .a1 + 2 * s.word .r1hR3 ∧
      ∀ j, j < (s.word .r1hR3).toNat → t.peek (zext20 (s.areg .a1 + BitVec.ofNat 16 (2 * j))) = loByte (s.word .r0lR0) ∧
        t.peek (zext20 (s.areg .a1 + BitVec.ofNat 16 (2 * j)) + 1) = hiByte (s.word .r0lR0))

end
end

