-- ==== Sys2Proof/Laws/State.lean ====
section
/-! SUPPORT. The small lemmas of State: for each update, the fields it leaves alone and what its own field reads afterwards, so that no
later proof unfolds a record update. -/

namespace Sys2Proof.Machine

/-! ### Updates of one field -/

@[simp] theorem setFlg_bank0 (s : State) (f : Flg) : (s.setFlg f).bank0 = s.bank0 := rfl
@[simp] theorem setFlg_bank1 (s : State) (f : Flg) : (s.setFlg f).bank1 = s.bank1 := rfl
@[simp] theorem setFlg_pc (s : State) (f : Flg) : (s.setFlg f).pc = s.pc := rfl
@[simp] theorem setFlg_intb (s : State) (f : Flg) : (s.setFlg f).intb = s.intb := rfl
@[simp] theorem setFlg_usp (s : State) (f : Flg) : (s.setFlg f).usp = s.usp := rfl
@[simp] theorem setFlg_isp (s : State) (f : Flg) : (s.setFlg f).isp = s.isp := rfl
@[simp] theorem setFlg_sb (s : State) (f : Flg) : (s.setFlg f).sb = s.sb := rfl
@[simp] theorem setFlg_mem (s : State) (f : Flg) : (s.setFlg f).mem = s.mem := rfl
@[simp] theorem setFlg_waiting (s : State) (f : Flg) : (s.setFlg f).waiting = s.waiting := rfl
@[simp] theorem setFlg_inhibitOnce (s : State) (f : Flg) : (s.setFlg f).inhibitOnce = s.inhibitOnce := rfl
@[simp] theorem setFlg_iAccept (s : State) (f : Flg) : (s.setFlg f).iAccept = s.iAccept := rfl
@[simp] theorem setFlg_boundaryTaken (s : State) (f : Flg) : (s.setFlg f).boundaryTaken = s.boundaryTaken := rfl
@[simp] theorem setFlg_stepReq (s : State) (f : Flg) : (s.setFlg f).stepReq = s.stepReq := rfl
@[simp] theorem setFlg_layout (s : State) (f : Flg) : (s.setFlg f).layout = s.layout := rfl
@[simp] theorem setFlg_resetReq (s : State) (f : Flg) : (s.setFlg f).resetReq = s.resetReq := rfl
@[simp] theorem setFlg_req (s : State) (f : Flg) : (s.setFlg f).req = s.req := rfl
@[simp] theorem setFlg_platformLog (s : State) (f : Flg) : (s.setFlg f).platformLog = s.platformLog := rfl
@[simp] theorem setFlg_freeCount (s : State) (f : Flg) : (s.setFlg f).freeCount = s.freeCount := rfl

@[simp] theorem setFlg_flg (s : State) (f : Flg) : (s.setFlg f).flg = f := rfl

@[simp] theorem inhibit_bank0 (s : State) : (s.inhibit).bank0 = s.bank0 := rfl
@[simp] theorem inhibit_bank1 (s : State) : (s.inhibit).bank1 = s.bank1 := rfl
@[simp] theorem inhibit_pc (s : State) : (s.inhibit).pc = s.pc := rfl
@[simp] theorem inhibit_intb (s : State) : (s.inhibit).intb = s.intb := rfl
@[simp] theorem inhibit_usp (s : State) : (s.inhibit).usp = s.usp := rfl
@[simp] theorem inhibit_isp (s : State) : (s.inhibit).isp = s.isp := rfl
@[simp] theorem inhibit_sb (s : State) : (s.inhibit).sb = s.sb := rfl
@[simp] theorem inhibit_flg (s : State) : (s.inhibit).flg = s.flg := rfl
@[simp] theorem inhibit_mem (s : State) : (s.inhibit).mem = s.mem := rfl
@[simp] theorem inhibit_waiting (s : State) : (s.inhibit).waiting = s.waiting := rfl
@[simp] theorem inhibit_iAccept (s : State) : (s.inhibit).iAccept = s.iAccept := rfl
@[simp] theorem inhibit_boundaryTaken (s : State) : (s.inhibit).boundaryTaken = s.boundaryTaken := rfl
@[simp] theorem inhibit_stepReq (s : State) : (s.inhibit).stepReq = s.stepReq := rfl
@[simp] theorem inhibit_layout (s : State) : (s.inhibit).layout = s.layout := rfl
@[simp] theorem inhibit_resetReq (s : State) : (s.inhibit).resetReq = s.resetReq := rfl
@[simp] theorem inhibit_req (s : State) : (s.inhibit).req = s.req := rfl
@[simp] theorem inhibit_platformLog (s : State) : (s.inhibit).platformLog = s.platformLog := rfl
@[simp] theorem inhibit_freeCount (s : State) : (s.inhibit).freeCount = s.freeCount := rfl

@[simp] theorem inhibit_inhibitOnce (s : State) : s.inhibit.inhibitOnce = true := rfl

@[simp] theorem clearIr_bank0 (s : State) (n : Nat) : (s.clearIr n).bank0 = s.bank0 := rfl
@[simp] theorem clearIr_bank1 (s : State) (n : Nat) : (s.clearIr n).bank1 = s.bank1 := rfl
@[simp] theorem clearIr_pc (s : State) (n : Nat) : (s.clearIr n).pc = s.pc := rfl
@[simp] theorem clearIr_intb (s : State) (n : Nat) : (s.clearIr n).intb = s.intb := rfl
@[simp] theorem clearIr_usp (s : State) (n : Nat) : (s.clearIr n).usp = s.usp := rfl
@[simp] theorem clearIr_isp (s : State) (n : Nat) : (s.clearIr n).isp = s.isp := rfl
@[simp] theorem clearIr_sb (s : State) (n : Nat) : (s.clearIr n).sb = s.sb := rfl
@[simp] theorem clearIr_flg (s : State) (n : Nat) : (s.clearIr n).flg = s.flg := rfl
@[simp] theorem clearIr_mem (s : State) (n : Nat) : (s.clearIr n).mem = s.mem := rfl
@[simp] theorem clearIr_waiting (s : State) (n : Nat) : (s.clearIr n).waiting = s.waiting := rfl
@[simp] theorem clearIr_inhibitOnce (s : State) (n : Nat) : (s.clearIr n).inhibitOnce = s.inhibitOnce := rfl
@[simp] theorem clearIr_iAccept (s : State) (n : Nat) : (s.clearIr n).iAccept = s.iAccept := rfl
@[simp] theorem clearIr_boundaryTaken (s : State) (n : Nat) : (s.clearIr n).boundaryTaken = s.boundaryTaken := rfl
@[simp] theorem clearIr_stepReq (s : State) (n : Nat) : (s.clearIr n).stepReq = s.stepReq := rfl
@[simp] theorem clearIr_layout (s : State) (n : Nat) : (s.clearIr n).layout = s.layout := rfl
@[simp] theorem clearIr_resetReq (s : State) (n : Nat) : (s.clearIr n).resetReq = s.resetReq := rfl
@[simp] theorem clearIr_platformLog (s : State) (n : Nat) : (s.clearIr n).platformLog = s.platformLog := rfl
@[simp] theorem clearIr_freeCount (s : State) (n : Nat) : (s.clearIr n).freeCount = s.freeCount := rfl

@[simp] theorem draw_bank0 (s : State) : ((draw s).2).bank0 = s.bank0 := rfl
@[simp] theorem draw_bank1 (s : State) : ((draw s).2).bank1 = s.bank1 := rfl
@[simp] theorem draw_pc (s : State) : ((draw s).2).pc = s.pc := rfl
@[simp] theorem draw_intb (s : State) : ((draw s).2).intb = s.intb := rfl
@[simp] theorem draw_usp (s : State) : ((draw s).2).usp = s.usp := rfl
@[simp] theorem draw_isp (s : State) : ((draw s).2).isp = s.isp := rfl
@[simp] theorem draw_sb (s : State) : ((draw s).2).sb = s.sb := rfl
@[simp] theorem draw_flg (s : State) : ((draw s).2).flg = s.flg := rfl
@[simp] theorem draw_mem (s : State) : ((draw s).2).mem = s.mem := rfl
@[simp] theorem draw_waiting (s : State) : ((draw s).2).waiting = s.waiting := rfl
@[simp] theorem draw_inhibitOnce (s : State) : ((draw s).2).inhibitOnce = s.inhibitOnce := rfl
@[simp] theorem draw_iAccept (s : State) : ((draw s).2).iAccept = s.iAccept := rfl
@[simp] theorem draw_boundaryTaken (s : State) : ((draw s).2).boundaryTaken = s.boundaryTaken := rfl
@[simp] theorem draw_stepReq (s : State) : ((draw s).2).stepReq = s.stepReq := rfl
@[simp] theorem draw_layout (s : State) : ((draw s).2).layout = s.layout := rfl
@[simp] theorem draw_resetReq (s : State) : ((draw s).2).resetReq = s.resetReq := rfl
@[simp] theorem draw_req (s : State) : ((draw s).2).req = s.req := rfl
@[simp] theorem draw_platformLog (s : State) : ((draw s).2).platformLog = s.platformLog := rfl

@[simp] theorem draw_snd_freeCount (s : State) : (draw s).2.freeCount = s.freeCount + 1 := rfl
theorem draw_fst (s : State) : (draw s).1 = Config.freeValue s.freeCount := rfl

@[simp] theorem beginInstr_bank0 (s : State) : (s.beginInstr).bank0 = s.bank0 := rfl
@[simp] theorem beginInstr_bank1 (s : State) : (s.beginInstr).bank1 = s.bank1 := rfl
@[simp] theorem beginInstr_pc (s : State) : (s.beginInstr).pc = s.pc := rfl
@[simp] theorem beginInstr_intb (s : State) : (s.beginInstr).intb = s.intb := rfl
@[simp] theorem beginInstr_usp (s : State) : (s.beginInstr).usp = s.usp := rfl
@[simp] theorem beginInstr_isp (s : State) : (s.beginInstr).isp = s.isp := rfl
@[simp] theorem beginInstr_sb (s : State) : (s.beginInstr).sb = s.sb := rfl
@[simp] theorem beginInstr_flg (s : State) : (s.beginInstr).flg = s.flg := rfl
@[simp] theorem beginInstr_mem (s : State) : (s.beginInstr).mem = s.mem := rfl
@[simp] theorem beginInstr_waiting (s : State) : (s.beginInstr).waiting = s.waiting := rfl
@[simp] theorem beginInstr_stepReq (s : State) : (s.beginInstr).stepReq = s.stepReq := rfl
@[simp] theorem beginInstr_layout (s : State) : (s.beginInstr).layout = s.layout := rfl
@[simp] theorem beginInstr_resetReq (s : State) : (s.beginInstr).resetReq = s.resetReq := rfl
@[simp] theorem beginInstr_req (s : State) : (s.beginInstr).req = s.req := rfl
@[simp] theorem beginInstr_platformLog (s : State) : (s.beginInstr).platformLog = s.platformLog := rfl
@[simp] theorem beginInstr_freeCount (s : State) : (s.beginInstr).freeCount = s.freeCount := rfl

@[simp] theorem beginInstr_inhibitOnce (s : State) : s.beginInstr.inhibitOnce = false := rfl
@[simp] theorem beginInstr_boundaryTaken (s : State) : s.beginInstr.boundaryTaken = false := rfl
@[simp] theorem beginInstr_iAccept (s : State) : s.beginInstr.iAccept = s.flg.i := rfl

@[simp] theorem endInstr_bank0 (s : State) (i : Instr) (r : State) : (s.endInstr i r).bank0 = s.bank0 := rfl
@[simp] theorem endInstr_bank1 (s : State) (i : Instr) (r : State) : (s.endInstr i r).bank1 = s.bank1 := rfl
@[simp] theorem endInstr_pc (s : State) (i : Instr) (r : State) : (s.endInstr i r).pc = s.pc := rfl
@[simp] theorem endInstr_intb (s : State) (i : Instr) (r : State) : (s.endInstr i r).intb = s.intb := rfl
@[simp] theorem endInstr_usp (s : State) (i : Instr) (r : State) : (s.endInstr i r).usp = s.usp := rfl
@[simp] theorem endInstr_isp (s : State) (i : Instr) (r : State) : (s.endInstr i r).isp = s.isp := rfl
@[simp] theorem endInstr_sb (s : State) (i : Instr) (r : State) : (s.endInstr i r).sb = s.sb := rfl
@[simp] theorem endInstr_flg (s : State) (i : Instr) (r : State) : (s.endInstr i r).flg = s.flg := rfl
@[simp] theorem endInstr_mem (s : State) (i : Instr) (r : State) : (s.endInstr i r).mem = s.mem := rfl
@[simp] theorem endInstr_waiting (s : State) (i : Instr) (r : State) : (s.endInstr i r).waiting = s.waiting := rfl
@[simp] theorem endInstr_inhibitOnce (s : State) (i : Instr) (r : State) : (s.endInstr i r).inhibitOnce = s.inhibitOnce := rfl
@[simp] theorem endInstr_iAccept (s : State) (i : Instr) (r : State) : (s.endInstr i r).iAccept = s.iAccept := rfl
@[simp] theorem endInstr_boundaryTaken (s : State) (i : Instr) (r : State) : (s.endInstr i r).boundaryTaken = s.boundaryTaken := rfl
@[simp] theorem endInstr_resetReq (s : State) (i : Instr) (r : State) : (s.endInstr i r).resetReq = s.resetReq := rfl
@[simp] theorem endInstr_req (s : State) (i : Instr) (r : State) : (s.endInstr i r).req = s.req := rfl
@[simp] theorem endInstr_platformLog (s : State) (i : Instr) (r : State) : (s.endInstr i r).platformLog = s.platformLog := rfl
@[simp] theorem endInstr_freeCount (s : State) (i : Instr) (r : State) : (s.endInstr i r).freeCount = s.freeCount := rfl

@[simp] theorem deviceAccess_bank0 (s : State) (x : PlatformAccess) : (s.deviceAccess x).bank0 = s.bank0 := rfl
@[simp] theorem deviceAccess_bank1 (s : State) (x : PlatformAccess) : (s.deviceAccess x).bank1 = s.bank1 := rfl
@[simp] theorem deviceAccess_pc (s : State) (x : PlatformAccess) : (s.deviceAccess x).pc = s.pc := rfl
@[simp] theorem deviceAccess_intb (s : State) (x : PlatformAccess) : (s.deviceAccess x).intb = s.intb := rfl
@[simp] theorem deviceAccess_usp (s : State) (x : PlatformAccess) : (s.deviceAccess x).usp = s.usp := rfl
@[simp] theorem deviceAccess_isp (s : State) (x : PlatformAccess) : (s.deviceAccess x).isp = s.isp := rfl
@[simp] theorem deviceAccess_sb (s : State) (x : PlatformAccess) : (s.deviceAccess x).sb = s.sb := rfl
@[simp] theorem deviceAccess_flg (s : State) (x : PlatformAccess) : (s.deviceAccess x).flg = s.flg := rfl
@[simp] theorem deviceAccess_mem (s : State) (x : PlatformAccess) : (s.deviceAccess x).mem = s.mem := rfl
@[simp] theorem deviceAccess_waiting (s : State) (x : PlatformAccess) : (s.deviceAccess x).waiting = s.waiting := rfl
@[simp] theorem deviceAccess_inhibitOnce (s : State) (x : PlatformAccess) : (s.deviceAccess x).inhibitOnce = s.inhibitOnce := rfl
@[simp] theorem deviceAccess_iAccept (s : State) (x : PlatformAccess) : (s.deviceAccess x).iAccept = s.iAccept := rfl
@[simp] theorem deviceAccess_boundaryTaken (s : State) (x : PlatformAccess) : (s.deviceAccess x).boundaryTaken = s.boundaryTaken := rfl
@[simp] theorem deviceAccess_stepReq (s : State) (x : PlatformAccess) : (s.deviceAccess x).stepReq = s.stepReq := rfl
@[simp] theorem deviceAccess_layout (s : State) (x : PlatformAccess) : (s.deviceAccess x).layout = s.layout := rfl
@[simp] theorem deviceAccess_resetReq (s : State) (x : PlatformAccess) : (s.deviceAccess x).resetReq = s.resetReq := rfl
@[simp] theorem deviceAccess_freeCount (s : State) (x : PlatformAccess) : (s.deviceAccess x).freeCount = s.freeCount := rfl

@[simp] theorem deviceAccess_platformLog (s : State) (x : PlatformAccess) : (s.deviceAccess x).platformLog = x :: s.platformLog := rfl

/-! ### The selected bank and stack pointer -/

@[simp] theorem setBank_pc (s : State) (k : Bank) : (s.setBank k).pc = s.pc := by
  unfold State.setBank; split <;> rfl
@[simp] theorem setBank_intb (s : State) (k : Bank) : (s.setBank k).intb = s.intb := by
  unfold State.setBank; split <;> rfl
@[simp] theorem setBank_usp (s : State) (k : Bank) : (s.setBank k).usp = s.usp := by
  unfold State.setBank; split <;> rfl
@[simp] theorem setBank_isp (s : State) (k : Bank) : (s.setBank k).isp = s.isp := by
  unfold State.setBank; split <;> rfl
@[simp] theorem setBank_sb (s : State) (k : Bank) : (s.setBank k).sb = s.sb := by
  unfold State.setBank; split <;> rfl
@[simp] theorem setBank_flg (s : State) (k : Bank) : (s.setBank k).flg = s.flg := by
  unfold State.setBank; split <;> rfl
@[simp] theorem setBank_mem (s : State) (k : Bank) : (s.setBank k).mem = s.mem := by
  unfold State.setBank; split <;> rfl
@[simp] theorem setBank_waiting (s : State) (k : Bank) : (s.setBank k).waiting = s.waiting := by
  unfold State.setBank; split <;> rfl
@[simp] theorem setBank_inhibitOnce (s : State) (k : Bank) : (s.setBank k).inhibitOnce = s.inhibitOnce := by
  unfold State.setBank; split <;> rfl
@[simp] theorem setBank_iAccept (s : State) (k : Bank) : (s.setBank k).iAccept = s.iAccept := by
  unfold State.setBank; split <;> rfl
@[simp] theorem setBank_boundaryTaken (s : State) (k : Bank) : (s.setBank k).boundaryTaken = s.boundaryTaken := by
  unfold State.setBank; split <;> rfl
@[simp] theorem setBank_stepReq (s : State) (k : Bank) : (s.setBank k).stepReq = s.stepReq := by
  unfold State.setBank; split <;> rfl
@[simp] theorem setBank_layout (s : State) (k : Bank) : (s.setBank k).layout = s.layout := by
  unfold State.setBank; split <;> rfl
@[simp] theorem setBank_resetReq (s : State) (k : Bank) : (s.setBank k).resetReq = s.resetReq := by
  unfold State.setBank; split <;> rfl
@[simp] theorem setBank_req (s : State) (k : Bank) : (s.setBank k).req = s.req := by
  unfold State.setBank; split <;> rfl
@[simp] theorem setBank_platformLog (s : State) (k : Bank) : (s.setBank k).platformLog = s.platformLog := by
  unfold State.setBank; split <;> rfl
@[simp] theorem setBank_freeCount (s : State) (k : Bank) : (s.setBank k).freeCount = s.freeCount := by
  unfold State.setBank; split <;> rfl

@[simp] theorem setSp_bank0 (s : State) (v : Word) : (s.setSp v).bank0 = s.bank0 := by
  unfold State.setSp; split <;> rfl
@[simp] theorem setSp_bank1 (s : State) (v : Word) : (s.setSp v).bank1 = s.bank1 := by
  unfold State.setSp; split <;> rfl
@[simp] theorem setSp_pc (s : State) (v : Word) : (s.setSp v).pc = s.pc := by
  unfold State.setSp; split <;> rfl
@[simp] theorem setSp_intb (s : State) (v : Word) : (s.setSp v).intb = s.intb := by
  unfold State.setSp; split <;> rfl
@[simp] theorem setSp_sb (s : State) (v : Word) : (s.setSp v).sb = s.sb := by
  unfold State.setSp; split <;> rfl
@[simp] theorem setSp_flg (s : State) (v : Word) : (s.setSp v).flg = s.flg := by
  unfold State.setSp; split <;> rfl
@[simp] theorem setSp_mem (s : State) (v : Word) : (s.setSp v).mem = s.mem := by
  unfold State.setSp; split <;> rfl
@[simp] theorem setSp_waiting (s : State) (v : Word) : (s.setSp v).waiting = s.waiting := by
  unfold State.setSp; split <;> rfl
@[simp] theorem setSp_inhibitOnce (s : State) (v : Word) : (s.setSp v).inhibitOnce = s.inhibitOnce := by
  unfold State.setSp; split <;> rfl
@[simp] theorem setSp_iAccept (s : State) (v : Word) : (s.setSp v).iAccept = s.iAccept := by
  unfold State.setSp; split <;> rfl
@[simp] theorem setSp_boundaryTaken (s : State) (v : Word) : (s.setSp v).boundaryTaken = s.boundaryTaken := by
  unfold State.setSp; split <;> rfl
@[simp] theorem setSp_stepReq (s : State) (v : Word) : (s.setSp v).stepReq = s.stepReq := by
  unfold State.setSp; split <;> rfl
@[simp] theorem setSp_layout (s : State) (v : Word) : (s.setSp v).layout = s.layout := by
  unfold State.setSp; split <;> rfl
@[simp] theorem setSp_resetReq (s : State) (v : Word) : (s.setSp v).resetReq = s.resetReq := by
  unfold State.setSp; split <;> rfl
@[simp] theorem setSp_req (s : State) (v : Word) : (s.setSp v).req = s.req := by
  unfold State.setSp; split <;> rfl
@[simp] theorem setSp_platformLog (s : State) (v : Word) : (s.setSp v).platformLog = s.platformLog := by
  unfold State.setSp; split <;> rfl
@[simp] theorem setSp_freeCount (s : State) (v : Word) : (s.setSp v).freeCount = s.freeCount := by
  unfold State.setSp; split <;> rfl

@[simp] theorem setBank_bank (s : State) (k : Bank) : (s.setBank k).bank = k := by
  unfold State.setBank State.bank; cases h : s.flg.b <;> simp [h]

@[simp] theorem setSp_sp (s : State) (v : Word) : (s.setSp v).sp = v := by
  unfold State.setSp State.sp; cases h : s.flg.u <;> simp [h]

@[simp] theorem setSp_bank (s : State) (v : Word) : (s.setSp v).bank = s.bank := by
  unfold State.bank; simp

@[simp] theorem setBank_sp (s : State) (k : Bank) : (s.setBank k).sp = s.sp := by
  unfold State.sp; simp

@[simp] theorem setBank_bank_self (s : State) : s.setBank s.bank = s := by
  unfold State.setBank State.bank; cases h : s.flg.b <;> simp

@[simp] theorem setBank_setBank (s : State) (k l : Bank) : (s.setBank k).setBank l = s.setBank l := by
  unfold State.setBank; cases h : s.flg.b <;> simp [h]

/-- The bank that is not selected keeps its registers (R27). -/
theorem setBank_other (s : State) (k : Bank) :
    (if s.flg.b then (s.setBank k).bank0 else (s.setBank k).bank1) = (if s.flg.b then s.bank0 else s.bank1) := by
  unfold State.setBank; cases h : s.flg.b <;> simp

/-- The stack pointer that is not selected keeps its value (R31). -/
theorem setSp_other (s : State) (v : Word) :
    (if s.flg.u then (s.setSp v).isp else (s.setSp v).usp) = (if s.flg.u then s.isp else s.usp) := by
  unfold State.setSp; cases h : s.flg.u <;> simp

/-! ### Registers of the selected bank -/

@[simp] theorem setWord_pc (s : State) (r : DReg) (v : Word) : (s.setWord r v).pc = s.pc := by
  cases r <;> simp [State.setWord]
@[simp] theorem setWord_intb (s : State) (r : DReg) (v : Word) : (s.setWord r v).intb = s.intb := by
  cases r <;> simp [State.setWord]
@[simp] theorem setWord_usp (s : State) (r : DReg) (v : Word) : (s.setWord r v).usp = s.usp := by
  cases r <;> simp [State.setWord]
@[simp] theorem setWord_isp (s : State) (r : DReg) (v : Word) : (s.setWord r v).isp = s.isp := by
  cases r <;> simp [State.setWord]
@[simp] theorem setWord_sb (s : State) (r : DReg) (v : Word) : (s.setWord r v).sb = s.sb := by
  cases r <;> simp [State.setWord]
@[simp] theorem setWord_flg (s : State) (r : DReg) (v : Word) : (s.setWord r v).flg = s.flg := by
  cases r <;> simp [State.setWord]
@[simp] theorem setWord_mem (s : State) (r : DReg) (v : Word) : (s.setWord r v).mem = s.mem := by
  cases r <;> simp [State.setWord]
@[simp] theorem setWord_waiting (s : State) (r : DReg) (v : Word) : (s.setWord r v).waiting = s.waiting := by
  cases r <;> simp [State.setWord]
@[simp] theorem setWord_inhibitOnce (s : State) (r : DReg) (v : Word) : (s.setWord r v).inhibitOnce = s.inhibitOnce := by
  cases r <;> simp [State.setWord]
@[simp] theorem setWord_iAccept (s : State) (r : DReg) (v : Word) : (s.setWord r v).iAccept = s.iAccept := by
  cases r <;> simp [State.setWord]
@[simp] theorem setWord_boundaryTaken (s : State) (r : DReg) (v : Word) : (s.setWord r v).boundaryTaken = s.boundaryTaken := by
  cases r <;> simp [State.setWord]
@[simp] theorem setWord_stepReq (s : State) (r : DReg) (v : Word) : (s.setWord r v).stepReq = s.stepReq := by
  cases r <;> simp [State.setWord]
@[simp] theorem setWord_layout (s : State) (r : DReg) (v : Word) : (s.setWord r v).layout = s.layout := by
  cases r <;> simp [State.setWord]
@[simp] theorem setWord_resetReq (s : State) (r : DReg) (v : Word) : (s.setWord r v).resetReq = s.resetReq := by
  cases r <;> simp [State.setWord]
@[simp] theorem setWord_req (s : State) (r : DReg) (v : Word) : (s.setWord r v).req = s.req := by
  cases r <;> simp [State.setWord]
@[simp] theorem setWord_platformLog (s : State) (r : DReg) (v : Word) : (s.setWord r v).platformLog = s.platformLog := by
  cases r <;> simp [State.setWord]
@[simp] theorem setWord_freeCount (s : State) (r : DReg) (v : Word) : (s.setWord r v).freeCount = s.freeCount := by
  cases r <;> simp [State.setWord]

@[simp] theorem setWord_sp (s : State) (r : DReg) (v : Word) : (s.setWord r v).sp = s.sp := by
  unfold State.sp; simp

@[simp] theorem setByte_pc (s : State) (r : DReg) (v : Byte) : (s.setByte r v).pc = s.pc := by
  cases r <;> simp [State.setByte]
@[simp] theorem setByte_intb (s : State) (r : DReg) (v : Byte) : (s.setByte r v).intb = s.intb := by
  cases r <;> simp [State.setByte]
@[simp] theorem setByte_usp (s : State) (r : DReg) (v : Byte) : (s.setByte r v).usp = s.usp := by
  cases r <;> simp [State.setByte]
@[simp] theorem setByte_isp (s : State) (r : DReg) (v : Byte) : (s.setByte r v).isp = s.isp := by
  cases r <;> simp [State.setByte]
@[simp] theorem setByte_sb (s : State) (r : DReg) (v : Byte) : (s.setByte r v).sb = s.sb := by
  cases r <;> simp [State.setByte]
@[simp] theorem setByte_flg (s : State) (r : DReg) (v : Byte) : (s.setByte r v).flg = s.flg := by
  cases r <;> simp [State.setByte]
@[simp] theorem setByte_mem (s : State) (r : DReg) (v : Byte) : (s.setByte r v).mem = s.mem := by
  cases r <;> simp [State.setByte]
@[simp] theorem setByte_waiting (s : State) (r : DReg) (v : Byte) : (s.setByte r v).waiting = s.waiting := by
  cases r <;> simp [State.setByte]
@[simp] theorem setByte_inhibitOnce (s : State) (r : DReg) (v : Byte) : (s.setByte r v).inhibitOnce = s.inhibitOnce := by
  cases r <;> simp [State.setByte]
@[simp] theorem setByte_iAccept (s : State) (r : DReg) (v : Byte) : (s.setByte r v).iAccept = s.iAccept := by
  cases r <;> simp [State.setByte]
@[simp] theorem setByte_boundaryTaken (s : State) (r : DReg) (v : Byte) : (s.setByte r v).boundaryTaken = s.boundaryTaken := by
  cases r <;> simp [State.setByte]
@[simp] theorem setByte_stepReq (s : State) (r : DReg) (v : Byte) : (s.setByte r v).stepReq = s.stepReq := by
  cases r <;> simp [State.setByte]
@[simp] theorem setByte_layout (s : State) (r : DReg) (v : Byte) : (s.setByte r v).layout = s.layout := by
  cases r <;> simp [State.setByte]
@[simp] theorem setByte_resetReq (s : State) (r : DReg) (v : Byte) : (s.setByte r v).resetReq = s.resetReq := by
  cases r <;> simp [State.setByte]
@[simp] theorem setByte_req (s : State) (r : DReg) (v : Byte) : (s.setByte r v).req = s.req := by
  cases r <;> simp [State.setByte]
@[simp] theorem setByte_platformLog (s : State) (r : DReg) (v : Byte) : (s.setByte r v).platformLog = s.platformLog := by
  cases r <;> simp [State.setByte]
@[simp] theorem setByte_freeCount (s : State) (r : DReg) (v : Byte) : (s.setByte r v).freeCount = s.freeCount := by
  cases r <;> simp [State.setByte]

@[simp] theorem setByte_sp (s : State) (r : DReg) (v : Byte) : (s.setByte r v).sp = s.sp := by
  unfold State.sp; simp

@[simp] theorem setAreg_pc (s : State) (a : AReg) (v : Word) : (s.setAreg a v).pc = s.pc := by
  cases a <;> simp [State.setAreg]
@[simp] theorem setAreg_intb (s : State) (a : AReg) (v : Word) : (s.setAreg a v).intb = s.intb := by
  cases a <;> simp [State.setAreg]
@[simp] theorem setAreg_usp (s : State) (a : AReg) (v : Word) : (s.setAreg a v).usp = s.usp := by
  cases a <;> simp [State.setAreg]
@[simp] theorem setAreg_isp (s : State) (a : AReg) (v : Word) : (s.setAreg a v).isp = s.isp := by
  cases a <;> simp [State.setAreg]
@[simp] theorem setAreg_sb (s : State) (a : AReg) (v : Word) : (s.setAreg a v).sb = s.sb := by
  cases a <;> simp [State.setAreg]
@[simp] theorem setAreg_flg (s : State) (a : AReg) (v : Word) : (s.setAreg a v).flg = s.flg := by
  cases a <;> simp [State.setAreg]
@[simp] theorem setAreg_mem (s : State) (a : AReg) (v : Word) : (s.setAreg a v).mem = s.mem := by
  cases a <;> simp [State.setAreg]
@[simp] theorem setAreg_waiting (s : State) (a : AReg) (v : Word) : (s.setAreg a v).waiting = s.waiting := by
  cases a <;> simp [State.setAreg]
@[simp] theorem setAreg_inhibitOnce (s : State) (a : AReg) (v : Word) : (s.setAreg a v).inhibitOnce = s.inhibitOnce := by
  cases a <;> simp [State.setAreg]
@[simp] theorem setAreg_iAccept (s : State) (a : AReg) (v : Word) : (s.setAreg a v).iAccept = s.iAccept := by
  cases a <;> simp [State.setAreg]
@[simp] theorem setAreg_boundaryTaken (s : State) (a : AReg) (v : Word) : (s.setAreg a v).boundaryTaken = s.boundaryTaken := by
  cases a <;> simp [State.setAreg]
@[simp] theorem setAreg_stepReq (s : State) (a : AReg) (v : Word) : (s.setAreg a v).stepReq = s.stepReq := by
  cases a <;> simp [State.setAreg]
@[simp] theorem setAreg_layout (s : State) (a : AReg) (v : Word) : (s.setAreg a v).layout = s.layout := by
  cases a <;> simp [State.setAreg]
@[simp] theorem setAreg_resetReq (s : State) (a : AReg) (v : Word) : (s.setAreg a v).resetReq = s.resetReq := by
  cases a <;> simp [State.setAreg]
@[simp] theorem setAreg_req (s : State) (a : AReg) (v : Word) : (s.setAreg a v).req = s.req := by
  cases a <;> simp [State.setAreg]
@[simp] theorem setAreg_platformLog (s : State) (a : AReg) (v : Word) : (s.setAreg a v).platformLog = s.platformLog := by
  cases a <;> simp [State.setAreg]
@[simp] theorem setAreg_freeCount (s : State) (a : AReg) (v : Word) : (s.setAreg a v).freeCount = s.freeCount := by
  cases a <;> simp [State.setAreg]

@[simp] theorem setAreg_sp (s : State) (a : AReg) (v : Word) : (s.setAreg a v).sp = s.sp := by
  unfold State.sp; simp

@[simp] theorem setFb_pc (s : State) (v : Word) : (s.setFb v).pc = s.pc := by
  unfold State.setFb; simp
@[simp] theorem setFb_intb (s : State) (v : Word) : (s.setFb v).intb = s.intb := by
  unfold State.setFb; simp
@[simp] theorem setFb_usp (s : State) (v : Word) : (s.setFb v).usp = s.usp := by
  unfold State.setFb; simp
@[simp] theorem setFb_isp (s : State) (v : Word) : (s.setFb v).isp = s.isp := by
  unfold State.setFb; simp
@[simp] theorem setFb_sb (s : State) (v : Word) : (s.setFb v).sb = s.sb := by
  unfold State.setFb; simp
@[simp] theorem setFb_flg (s : State) (v : Word) : (s.setFb v).flg = s.flg := by
  unfold State.setFb; simp
@[simp] theorem setFb_mem (s : State) (v : Word) : (s.setFb v).mem = s.mem := by
  unfold State.setFb; simp
@[simp] theorem setFb_waiting (s : State) (v : Word) : (s.setFb v).waiting = s.waiting := by
  unfold State.setFb; simp
@[simp] theorem setFb_inhibitOnce (s : State) (v : Word) : (s.setFb v).inhibitOnce = s.inhibitOnce := by
  unfold State.setFb; simp
@[simp] theorem setFb_iAccept (s : State) (v : Word) : (s.setFb v).iAccept = s.iAccept := by
  unfold State.setFb; simp
@[simp] theorem setFb_boundaryTaken (s : State) (v : Word) : (s.setFb v).boundaryTaken = s.boundaryTaken := by
  unfold State.setFb; simp
@[simp] theorem setFb_stepReq (s : State) (v : Word) : (s.setFb v).stepReq = s.stepReq := by
  unfold State.setFb; simp
@[simp] theorem setFb_layout (s : State) (v : Word) : (s.setFb v).layout = s.layout := by
  unfold State.setFb; simp
@[simp] theorem setFb_resetReq (s : State) (v : Word) : (s.setFb v).resetReq = s.resetReq := by
  unfold State.setFb; simp
@[simp] theorem setFb_req (s : State) (v : Word) : (s.setFb v).req = s.req := by
  unfold State.setFb; simp
@[simp] theorem setFb_platformLog (s : State) (v : Word) : (s.setFb v).platformLog = s.platformLog := by
  unfold State.setFb; simp
@[simp] theorem setFb_freeCount (s : State) (v : Word) : (s.setFb v).freeCount = s.freeCount := by
  unfold State.setFb; simp

@[simp] theorem setFb_sp (s : State) (v : Word) : (s.setFb v).sp = s.sp := by
  unfold State.sp; simp

@[simp] theorem setPair_pc (s : State) (p : Pair) (v : Long) : (s.setPair p v).pc = s.pc := by
  cases p <;> simp [State.setPair]
@[simp] theorem setPair_intb (s : State) (p : Pair) (v : Long) : (s.setPair p v).intb = s.intb := by
  cases p <;> simp [State.setPair]
@[simp] theorem setPair_usp (s : State) (p : Pair) (v : Long) : (s.setPair p v).usp = s.usp := by
  cases p <;> simp [State.setPair]
@[simp] theorem setPair_isp (s : State) (p : Pair) (v : Long) : (s.setPair p v).isp = s.isp := by
  cases p <;> simp [State.setPair]
@[simp] theorem setPair_sb (s : State) (p : Pair) (v : Long) : (s.setPair p v).sb = s.sb := by
  cases p <;> simp [State.setPair]
@[simp] theorem setPair_flg (s : State) (p : Pair) (v : Long) : (s.setPair p v).flg = s.flg := by
  cases p <;> simp [State.setPair]
@[simp] theorem setPair_mem (s : State) (p : Pair) (v : Long) : (s.setPair p v).mem = s.mem := by
  cases p <;> simp [State.setPair]
@[simp] theorem setPair_waiting (s : State) (p : Pair) (v : Long) : (s.setPair p v).waiting = s.waiting := by
  cases p <;> simp [State.setPair]
@[simp] theorem setPair_inhibitOnce (s : State) (p : Pair) (v : Long) : (s.setPair p v).inhibitOnce = s.inhibitOnce := by
  cases p <;> simp [State.setPair]
@[simp] theorem setPair_iAccept (s : State) (p : Pair) (v : Long) : (s.setPair p v).iAccept = s.iAccept := by
  cases p <;> simp [State.setPair]
@[simp] theorem setPair_boundaryTaken (s : State) (p : Pair) (v : Long) : (s.setPair p v).boundaryTaken = s.boundaryTaken := by
  cases p <;> simp [State.setPair]
@[simp] theorem setPair_stepReq (s : State) (p : Pair) (v : Long) : (s.setPair p v).stepReq = s.stepReq := by
  cases p <;> simp [State.setPair]
@[simp] theorem setPair_layout (s : State) (p : Pair) (v : Long) : (s.setPair p v).layout = s.layout := by
  cases p <;> simp [State.setPair]
@[simp] theorem setPair_resetReq (s : State) (p : Pair) (v : Long) : (s.setPair p v).resetReq = s.resetReq := by
  cases p <;> simp [State.setPair]
@[simp] theorem setPair_req (s : State) (p : Pair) (v : Long) : (s.setPair p v).req = s.req := by
  cases p <;> simp [State.setPair]
@[simp] theorem setPair_platformLog (s : State) (p : Pair) (v : Long) : (s.setPair p v).platformLog = s.platformLog := by
  cases p <;> simp [State.setPair]
@[simp] theorem setPair_freeCount (s : State) (p : Pair) (v : Long) : (s.setPair p v).freeCount = s.freeCount := by
  cases p <;> simp [State.setPair]

@[simp] theorem setPair_sp (s : State) (p : Pair) (v : Long) : (s.setPair p v).sp = s.sp := by
  unfold State.sp; simp

@[simp] theorem setApair_pc (s : State) (p : APair) (v : Long) : (s.setApair p v).pc = s.pc := by
  cases p <;> simp [State.setApair]
@[simp] theorem setApair_intb (s : State) (p : APair) (v : Long) : (s.setApair p v).intb = s.intb := by
  cases p <;> simp [State.setApair]
@[simp] theorem setApair_usp (s : State) (p : APair) (v : Long) : (s.setApair p v).usp = s.usp := by
  cases p <;> simp [State.setApair]
@[simp] theorem setApair_isp (s : State) (p : APair) (v : Long) : (s.setApair p v).isp = s.isp := by
  cases p <;> simp [State.setApair]
@[simp] theorem setApair_sb (s : State) (p : APair) (v : Long) : (s.setApair p v).sb = s.sb := by
  cases p <;> simp [State.setApair]
@[simp] theorem setApair_flg (s : State) (p : APair) (v : Long) : (s.setApair p v).flg = s.flg := by
  cases p <;> simp [State.setApair]
@[simp] theorem setApair_mem (s : State) (p : APair) (v : Long) : (s.setApair p v).mem = s.mem := by
  cases p <;> simp [State.setApair]
@[simp] theorem setApair_waiting (s : State) (p : APair) (v : Long) : (s.setApair p v).waiting = s.waiting := by
  cases p <;> simp [State.setApair]
@[simp] theorem setApair_inhibitOnce (s : State) (p : APair) (v : Long) : (s.setApair p v).inhibitOnce = s.inhibitOnce := by
  cases p <;> simp [State.setApair]
@[simp] theorem setApair_iAccept (s : State) (p : APair) (v : Long) : (s.setApair p v).iAccept = s.iAccept := by
  cases p <;> simp [State.setApair]
@[simp] theorem setApair_boundaryTaken (s : State) (p : APair) (v : Long) : (s.setApair p v).boundaryTaken = s.boundaryTaken := by
  cases p <;> simp [State.setApair]
@[simp] theorem setApair_stepReq (s : State) (p : APair) (v : Long) : (s.setApair p v).stepReq = s.stepReq := by
  cases p <;> simp [State.setApair]
@[simp] theorem setApair_layout (s : State) (p : APair) (v : Long) : (s.setApair p v).layout = s.layout := by
  cases p <;> simp [State.setApair]
@[simp] theorem setApair_resetReq (s : State) (p : APair) (v : Long) : (s.setApair p v).resetReq = s.resetReq := by
  cases p <;> simp [State.setApair]
@[simp] theorem setApair_req (s : State) (p : APair) (v : Long) : (s.setApair p v).req = s.req := by
  cases p <;> simp [State.setApair]
@[simp] theorem setApair_platformLog (s : State) (p : APair) (v : Long) : (s.setApair p v).platformLog = s.platformLog := by
  cases p <;> simp [State.setApair]
@[simp] theorem setApair_freeCount (s : State) (p : APair) (v : Long) : (s.setApair p v).freeCount = s.freeCount := by
  cases p <;> simp [State.setApair]

@[simp] theorem setApair_sp (s : State) (p : APair) (v : Long) : (s.setApair p v).sp = s.sp := by
  unfold State.sp; simp

@[simp] theorem setWord_word (s : State) (r : DReg) (v : Word) : (s.setWord r v).word r = v := by
  cases r <;> simp [State.setWord, State.word]

theorem setWord_word_ne (s : State) (r q : DReg) (v : Word) (h : q ≠ r) : (s.setWord r v).word q = s.word q := by
  cases r <;> cases q <;> simp_all [State.setWord, State.word]

@[simp] theorem setWord_areg (s : State) (r : DReg) (v : Word) (a : AReg) : (s.setWord r v).areg a = s.areg a := by
  cases r <;> cases a <;> simp [State.setWord, State.areg]

@[simp] theorem setWord_fb (s : State) (r : DReg) (v : Word) : (s.setWord r v).fb = s.fb := by
  cases r <;> simp [State.setWord, State.fb]

@[simp] theorem setAreg_areg (s : State) (a : AReg) (v : Word) : (s.setAreg a v).areg a = v := by
  cases a <;> simp [State.setAreg, State.areg]

theorem setAreg_areg_ne (s : State) (a b : AReg) (v : Word) (h : b ≠ a) : (s.setAreg a v).areg b = s.areg b := by
  cases a <;> cases b <;> simp_all [State.setAreg, State.areg]

@[simp] theorem setAreg_word (s : State) (a : AReg) (v : Word) (r : DReg) : (s.setAreg a v).word r = s.word r := by
  cases a <;> cases r <;> simp [State.setAreg, State.word]

@[simp] theorem setAreg_fb (s : State) (a : AReg) (v : Word) : (s.setAreg a v).fb = s.fb := by
  cases a <;> simp [State.setAreg, State.fb]

@[simp] theorem setFb_fb (s : State) (v : Word) : (s.setFb v).fb = v := by
  simp [State.setFb, State.fb]

@[simp] theorem setFb_word (s : State) (v : Word) (r : DReg) : (s.setFb v).word r = s.word r := by
  cases r <;> simp [State.setFb, State.word]

@[simp] theorem setFb_areg (s : State) (v : Word) (a : AReg) : (s.setFb v).areg a = s.areg a := by
  cases a <;> simp [State.setFb, State.areg]

@[simp] theorem loByte_append (h l : Byte) : loByte (h ++ l) = l := by
  apply BitVec.eq_of_getLsbD_eq; intro i hi
  simp [loByte, BitVec.getLsbD_append (x := h) (y := l), hi]

@[simp] theorem hiByte_append (h l : Byte) : hiByte (h ++ l) = h := by
  apply BitVec.eq_of_getLsbD_eq; intro i hi
  simp [hiByte, BitVec.getLsbD_append (x := h) (y := l), hi]

@[simp] theorem hiByte_append_loByte (w : Word) : hiByte w ++ loByte w = w := by
  apply BitVec.eq_of_getLsbD_eq; intro i hi
  rw [BitVec.getLsbD_append (x := hiByte w) (y := loByte w)]
  by_cases h : i < 8
  · simp [loByte, h]
  · have h2 : i - 8 < 8 := by omega
    have h3 : 8 + (i - 8) = i := by omega
    simp [hiByte, h, h2, h3]

@[simp] theorem word_halves (v : Long) : (v.extractLsb' 16 16 ++ v.extractLsb' 0 16 : Long) = v := by
  apply BitVec.eq_of_getLsbD_eq; intro i hi
  rw [BitVec.getLsbD_append (x := v.extractLsb' 16 16) (y := v.extractLsb' 0 16)]
  by_cases h : i < 16
  · simp [h]
  · have h2 : i - 16 < 16 := by omega
    have h3 : 16 + (i - 16) = i := by omega
    simp [h, h2, h3]

@[simp] theorem setByte_byte (s : State) (r : DReg) (v : Byte) : (s.setByte r v).byte r = v := by
  cases r <;> simp [State.setByte, State.byte]

/-- Writing a half leaves the other half, and every other byte register, unchanged (R21). -/
theorem setByte_byte_ne (s : State) (r q : DReg) (v : Byte) (h : q ≠ r) : (s.setByte r v).byte q = s.byte q := by
  cases r <;> cases q <;> simp_all [State.setByte, State.byte]

@[simp] theorem setByte_areg (s : State) (r : DReg) (v : Byte) (a : AReg) : (s.setByte r v).areg a = s.areg a := by
  cases r <;> cases a <;> simp [State.setByte, State.areg]

@[simp] theorem setByte_fb (s : State) (r : DReg) (v : Byte) : (s.setByte r v).fb = s.fb := by
  cases r <;> simp [State.setByte, State.fb]

@[simp] theorem setFlg_setFlg (s : State) (f g : Flg) : (s.setFlg f).setFlg g = s.setFlg g := rfl

/-- An update of FLG that keeps B keeps the selected bank. -/
theorem setFlg_bank (s : State) (f : Flg) (h : f.b = s.flg.b) : (s.setFlg f).bank = s.bank := by
  unfold State.bank; simp [h]

/-- An update of FLG that keeps U keeps the selected stack pointer. -/
theorem setFlg_sp (s : State) (f : Flg) (h : f.u = s.flg.u) : (s.setFlg f).sp = s.sp := by
  unfold State.sp; simp [h]

theorem setFlg_word (s : State) (f : Flg) (h : f.b = s.flg.b) (r : DReg) : (s.setFlg f).word r = s.word r := by
  cases r <;> simp [State.word, setFlg_bank s f h]

theorem setFlg_byte (s : State) (f : Flg) (h : f.b = s.flg.b) (r : DReg) : (s.setFlg f).byte r = s.byte r := by
  cases r <;> simp [State.byte, setFlg_bank s f h]

theorem setFlg_areg (s : State) (f : Flg) (h : f.b = s.flg.b) (a : AReg) : (s.setFlg f).areg a = s.areg a := by
  cases a <;> simp [State.areg, setFlg_bank s f h]

theorem setFlg_fb (s : State) (f : Flg) (h : f.b = s.flg.b) : (s.setFlg f).fb = s.fb := by
  simp [State.fb, setFlg_bank s f h]

@[simp] theorem setSp_word (s : State) (v : Word) (r : DReg) : (s.setSp v).word r = s.word r := by
  cases r <;> simp [State.word]

@[simp] theorem setSp_byte (s : State) (v : Word) (r : DReg) : (s.setSp v).byte r = s.byte r := by
  cases r <;> simp [State.byte]

@[simp] theorem setSp_areg (s : State) (v : Word) (a : AReg) : (s.setSp v).areg a = s.areg a := by
  cases a <;> simp [State.areg]

@[simp] theorem setSp_fb (s : State) (v : Word) : (s.setSp v).fb = s.fb := by
  simp [State.fb]

@[simp] theorem setPair_pair (s : State) (p : Pair) (v : Long) : (s.setPair p v).pair p = v := by
  cases p <;> simp only [State.setPair, State.pair, setBank_bank] <;> exact word_halves v

@[simp] theorem setPair_areg (s : State) (p : Pair) (v : Long) (a : AReg) : (s.setPair p v).areg a = s.areg a := by
  cases p <;> cases a <;> simp [State.setPair, State.areg]

@[simp] theorem setPair_fb (s : State) (p : Pair) (v : Long) : (s.setPair p v).fb = s.fb := by
  cases p <;> simp [State.setPair, State.fb]

/-! ### FLG as a word (R32, R42) -/

/-- FLG survives its own image: no implemented bit is lost (R32). -/
@[simp] theorem ofWord_toWord (f : Flg) : Flg.ofWord (Flg.toWord f) = f := by
  obtain ⟨c, d, z, s, b, o, i, u, ipl⟩ := f
  revert c d z s b o i u ipl
  decide

end Sys2Proof.Machine
end

