-- ==== Sys2Proof/Laws/Memory.lean ====
section
/-! SUPPORT. The laws of memory: a read after a write, and the canonical form, which every memory operation keeps. -/

namespace Sys2Proof.Machine

/-! ### One byte of the image -/

theorem Memory.get_set_same (m : List Host.Cell) (a : Nat) (v : Byte) (n : Nat) (h : Memory.canonFrom n m = true) :
    Memory.get (Memory.set m a v) a = v := by
  induction m generalizing n with
  | nil => unfold Memory.set; split <;> simp_all [Memory.get]
  | cons c t ih =>
    obtain ⟨k, w⟩ := c
    simp only [Memory.canonFrom, Bool.and_eq_true, decide_eq_true_eq] at h
    have gone : ∀ (t : List Host.Cell) (n : Nat), Memory.canonFrom n t = true → a < n → Memory.get t a = Memory.unlisted := by
      intro t
      induction t with
      | nil => intro _ _ _; rfl
      | cons d u ihu =>
        obtain ⟨j, x⟩ := d
        intro n hn han
        simp only [Memory.canonFrom, Bool.and_eq_true, decide_eq_true_eq] at hn
        have hne : a ≠ j := by omega
        simp only [Memory.get, if_neg hne]
        exact ihu (j + 1) hn.2 (by omega)
    unfold Memory.set
    split
    · rename_i hlt
      split
      · rename_i hv
        have hne : a ≠ k := by omega
        simp only [Memory.get, if_neg hne, hv]
        exact gone t (k + 1) h.2 (by omega)
      · simp [Memory.get]
    · split
      · rename_i heq
        split
        · rename_i hv
          rw [hv]
          exact gone t (k + 1) h.2 (by omega)
        · simp [Memory.get]
      · rename_i hne
        simp only [Memory.get, if_neg hne]
        exact ih (k + 1) h.2

theorem Memory.get_set_ne (m : List Host.Cell) (a b : Nat) (v : Byte) (h : b ≠ a) :
    Memory.get (Memory.set m a v) b = Memory.get m b := by
  induction m with
  | nil => unfold Memory.set; split <;> simp [Memory.get, h]
  | cons c t ih =>
    obtain ⟨k, w⟩ := c
    unfold Memory.set
    split
    · split <;> simp [Memory.get, h]
    · split
      · rename_i heq
        have hk : b ≠ k := by omega
        split <;> simp [Memory.get, h, hk]
      · simp only [Memory.get, ih]

/-! ### The canonical form -/

theorem Memory.canonFrom_mono (m : List Host.Cell) (n p : Nat) (h : Memory.canonFrom n m = true) (hp : p ≤ n) :
    Memory.canonFrom p m = true := by
  cases m with
  | nil => rfl
  | cons c t =>
    obtain ⟨k, w⟩ := c
    simp only [Memory.canonFrom, Bool.and_eq_true, decide_eq_true_eq] at h ⊢
    exact ⟨⟨⟨by omega, h.1.1.2⟩, h.1.2⟩, h.2⟩

theorem Memory.canonFrom_set (m : List Host.Cell) (n a : Nat) (v : Byte) (ha : a < 0x100000) (hn : n ≤ a)
    (h : Memory.canonFrom n m = true) : Memory.canonFrom n (Memory.set m a v) = true := by
  induction m generalizing n with
  | nil => unfold Memory.set; split <;> simp_all [Memory.canonFrom]
  | cons c t ih =>
    obtain ⟨k, w⟩ := c
    have h' := h
    simp only [Memory.canonFrom, Bool.and_eq_true, decide_eq_true_eq] at h'
    unfold Memory.set
    split
    · rename_i hlt
      split
      · exact h
      · rename_i hv
        simp only [Memory.canonFrom, Bool.and_eq_true, decide_eq_true_eq]
        exact ⟨⟨⟨hn, ha⟩, hv⟩, ⟨⟨by omega, h'.1.1.2⟩, h'.1.2⟩, h'.2⟩
    · split
      · rename_i heq
        split
        · exact Memory.canonFrom_mono t (k + 1) n h'.2 (by omega)
        · rename_i hv
          simp only [Memory.canonFrom, Bool.and_eq_true, decide_eq_true_eq]
          exact ⟨⟨⟨hn, ha⟩, hv⟩, by rw [heq]; exact h'.2⟩
      · rename_i hne
        simp only [Memory.canonFrom, Bool.and_eq_true, decide_eq_true_eq]
        exact ⟨h'.1, ih (k + 1) (by omega) h'.2⟩

/-- A store keeps the canonical form of memory. -/
theorem Memory.wf_set (m : List Host.Cell) (a : Addr) (v : Byte) (h : Memory.wf m = true) :
    Memory.wf (Memory.set m a.toNat v) = true :=
  Memory.canonFrom_set m 0 a.toNat v (by have := a.isLt; omega) (by omega) h

/-- Memory after reset has the canonical form. -/
theorem reset_memory_wf : Memory.wf State.reset.mem = true := rfl

/-! ### Reads of a byte -/

/-- Code in plain memory is fetched from the image (D17). -/
theorem codeByte_plain (s : State) (a : Addr) (h : s.layout.inImage a = true) : s.codeByte a = s.peek a := by
  simp [State.codeByte, h]

@[simp] theorem readByte_snd (s : State) (a : Addr) : (readByte s a).2 = s.afterRead a := rfl

/-- Writable memory is plain memory. -/
theorem Layout.inImage_of_isWritable {l : Layout} {a : Addr} (h : l.isWritable a = true) : l.inImage a = true := by
  simp only [Layout.isWritable, Bool.and_eq_true, Bool.or_eq_true, List.any_eq_true] at h
  obtain ⟨h0, h | ⟨e, he, -, ha⟩⟩ := h
  · simp only [Layout.inImage, h0, h, Bool.true_or, Bool.and_self]
  · have hx : (l.external.any fun e => e.contains a) = true := List.any_eq_true.2 ⟨e, he, ha⟩
    simp only [Layout.inImage, h0, hx, Bool.or_true, Bool.and_self]

/-- Plain memory and the SFR area are apart. -/
theorem Layout.isSfr_of_inImage {l : Layout} {a : Addr} (h : l.inImage a = true) : l.isSfr a = false := by
  simp only [Layout.inImage, Bool.and_eq_true, decide_eq_true_eq] at h
  have := l.sfrTop.isLt
  simp only [Layout.isSfr, decide_eq_false_iff_not]
  omega

/-- The fixed vector area FFE00h to FFFFFh is plain memory in every layout (R61). -/
theorem Layout.inImage_vectors (l : Layout) {a : Addr} (h : 0xFFE00 ≤ a.toNat) : l.inImage a = true := by
  simp only [Layout.inImage, h, Bool.and_eq_true, decide_eq_true_eq]
  exact ⟨by omega, by simp⟩

/-- A data read of plain memory answers the image's byte (R71). -/
theorem readByte_fst (s : State) (a : Addr) (h : s.layout.inImage a = true) : (readByte s a).1 = s.peek a := by
  simp [readByte, h]

/-- A data read outside the SFR area changes nothing (R71: plain idempotent memory). -/
theorem afterRead_not_sfr (s : State) (a : Addr) (h : s.layout.isSfr a = false) : s.afterRead a = s := by
  simp [State.afterRead, h]

/-- A data read of plain memory changes nothing. -/
theorem afterRead_plain (s : State) (a : Addr) (h : s.layout.inImage a = true) : s.afterRead a = s :=
  afterRead_not_sfr s a (Layout.isSfr_of_inImage h)

@[simp] theorem read16_snd (s : State) (a : Addr) : (read16 s a).2 = (s.afterRead a).afterRead (a + 1) := rfl
@[simp] theorem read24_snd (s : State) (a : Addr) :
    (read24 s a).2 = ((s.afterRead a).afterRead (a + 1)).afterRead (a + 2) := rfl
@[simp] theorem read32_snd (s : State) (a : Addr) :
    (read32 s a).2 = (((s.afterRead a).afterRead (a + 1)).afterRead (a + 2)).afterRead (a + 2 + 1) := rfl

@[simp] theorem cancelWinner_bank0 (s : State) : (s.cancelWinner).bank0 = s.bank0 := by
  unfold State.cancelWinner; split <;> rfl
@[simp] theorem cancelWinner_bank1 (s : State) : (s.cancelWinner).bank1 = s.bank1 := by
  unfold State.cancelWinner; split <;> rfl
@[simp] theorem cancelWinner_pc (s : State) : (s.cancelWinner).pc = s.pc := by
  unfold State.cancelWinner; split <;> rfl
@[simp] theorem cancelWinner_intb (s : State) : (s.cancelWinner).intb = s.intb := by
  unfold State.cancelWinner; split <;> rfl
@[simp] theorem cancelWinner_usp (s : State) : (s.cancelWinner).usp = s.usp := by
  unfold State.cancelWinner; split <;> rfl
@[simp] theorem cancelWinner_isp (s : State) : (s.cancelWinner).isp = s.isp := by
  unfold State.cancelWinner; split <;> rfl
@[simp] theorem cancelWinner_sb (s : State) : (s.cancelWinner).sb = s.sb := by
  unfold State.cancelWinner; split <;> rfl
@[simp] theorem cancelWinner_flg (s : State) : (s.cancelWinner).flg = s.flg := by
  unfold State.cancelWinner; split <;> rfl
@[simp] theorem cancelWinner_mem (s : State) : (s.cancelWinner).mem = s.mem := by
  unfold State.cancelWinner; split <;> rfl
@[simp] theorem cancelWinner_waiting (s : State) : (s.cancelWinner).waiting = s.waiting := by
  unfold State.cancelWinner; split <;> rfl
@[simp] theorem cancelWinner_inhibitOnce (s : State) : (s.cancelWinner).inhibitOnce = s.inhibitOnce := by
  unfold State.cancelWinner; split <;> rfl
@[simp] theorem cancelWinner_iAccept (s : State) : (s.cancelWinner).iAccept = s.iAccept := by
  unfold State.cancelWinner; split <;> rfl
@[simp] theorem cancelWinner_boundaryTaken (s : State) : (s.cancelWinner).boundaryTaken = s.boundaryTaken := by
  unfold State.cancelWinner; split <;> rfl
@[simp] theorem cancelWinner_stepReq (s : State) : (s.cancelWinner).stepReq = s.stepReq := by
  unfold State.cancelWinner; split <;> rfl
@[simp] theorem cancelWinner_layout (s : State) : (s.cancelWinner).layout = s.layout := by
  unfold State.cancelWinner; split <;> rfl
@[simp] theorem cancelWinner_resetReq (s : State) : (s.cancelWinner).resetReq = s.resetReq := by
  unfold State.cancelWinner; split <;> rfl
@[simp] theorem cancelWinner_platformLog (s : State) : (s.cancelWinner).platformLog = s.platformLog := by
  unfold State.cancelWinner; split <;> rfl
@[simp] theorem cancelWinner_freeCount (s : State) : (s.cancelWinner).freeCount = s.freeCount := by
  unfold State.cancelWinner; split <;> rfl

@[simp] theorem afterRead_bank0 (s : State) (a : Addr) : (s.afterRead a).bank0 = s.bank0 := by
  unfold State.afterRead; split <;> (try split) <;> simp
@[simp] theorem afterRead_bank1 (s : State) (a : Addr) : (s.afterRead a).bank1 = s.bank1 := by
  unfold State.afterRead; split <;> (try split) <;> simp
@[simp] theorem afterRead_pc (s : State) (a : Addr) : (s.afterRead a).pc = s.pc := by
  unfold State.afterRead; split <;> (try split) <;> simp
@[simp] theorem afterRead_intb (s : State) (a : Addr) : (s.afterRead a).intb = s.intb := by
  unfold State.afterRead; split <;> (try split) <;> simp
@[simp] theorem afterRead_usp (s : State) (a : Addr) : (s.afterRead a).usp = s.usp := by
  unfold State.afterRead; split <;> (try split) <;> simp
@[simp] theorem afterRead_isp (s : State) (a : Addr) : (s.afterRead a).isp = s.isp := by
  unfold State.afterRead; split <;> (try split) <;> simp
@[simp] theorem afterRead_sb (s : State) (a : Addr) : (s.afterRead a).sb = s.sb := by
  unfold State.afterRead; split <;> (try split) <;> simp
@[simp] theorem afterRead_flg (s : State) (a : Addr) : (s.afterRead a).flg = s.flg := by
  unfold State.afterRead; split <;> (try split) <;> simp
@[simp] theorem afterRead_mem (s : State) (a : Addr) : (s.afterRead a).mem = s.mem := by
  unfold State.afterRead; split <;> (try split) <;> simp
@[simp] theorem afterRead_waiting (s : State) (a : Addr) : (s.afterRead a).waiting = s.waiting := by
  unfold State.afterRead; split <;> (try split) <;> simp
@[simp] theorem afterRead_inhibitOnce (s : State) (a : Addr) : (s.afterRead a).inhibitOnce = s.inhibitOnce := by
  unfold State.afterRead; split <;> (try split) <;> simp
@[simp] theorem afterRead_iAccept (s : State) (a : Addr) : (s.afterRead a).iAccept = s.iAccept := by
  unfold State.afterRead; split <;> (try split) <;> simp
@[simp] theorem afterRead_boundaryTaken (s : State) (a : Addr) : (s.afterRead a).boundaryTaken = s.boundaryTaken := by
  unfold State.afterRead; split <;> (try split) <;> simp
@[simp] theorem afterRead_stepReq (s : State) (a : Addr) : (s.afterRead a).stepReq = s.stepReq := by
  unfold State.afterRead; split <;> (try split) <;> simp
@[simp] theorem afterRead_layout (s : State) (a : Addr) : (s.afterRead a).layout = s.layout := by
  unfold State.afterRead; split <;> (try split) <;> simp
@[simp] theorem afterRead_resetReq (s : State) (a : Addr) : (s.afterRead a).resetReq = s.resetReq := by
  unfold State.afterRead; split <;> (try split) <;> simp
@[simp] theorem afterRead_freeCount (s : State) (a : Addr) : (s.afterRead a).freeCount = s.freeCount := by
  unfold State.afterRead; split <;> (try split) <;> simp

/-! ### A data write of a byte -/

@[simp] theorem writeByte_bank0 (s : State) (a : Addr) (v : Byte) : (writeByte s a v).bank0 = s.bank0 := by
  unfold writeByte; split <;> simp
@[simp] theorem writeByte_bank1 (s : State) (a : Addr) (v : Byte) : (writeByte s a v).bank1 = s.bank1 := by
  unfold writeByte; split <;> simp
@[simp] theorem writeByte_pc (s : State) (a : Addr) (v : Byte) : (writeByte s a v).pc = s.pc := by
  unfold writeByte; split <;> simp
@[simp] theorem writeByte_intb (s : State) (a : Addr) (v : Byte) : (writeByte s a v).intb = s.intb := by
  unfold writeByte; split <;> simp
@[simp] theorem writeByte_usp (s : State) (a : Addr) (v : Byte) : (writeByte s a v).usp = s.usp := by
  unfold writeByte; split <;> simp
@[simp] theorem writeByte_isp (s : State) (a : Addr) (v : Byte) : (writeByte s a v).isp = s.isp := by
  unfold writeByte; split <;> simp
@[simp] theorem writeByte_sb (s : State) (a : Addr) (v : Byte) : (writeByte s a v).sb = s.sb := by
  unfold writeByte; split <;> simp
@[simp] theorem writeByte_flg (s : State) (a : Addr) (v : Byte) : (writeByte s a v).flg = s.flg := by
  unfold writeByte; split <;> simp
@[simp] theorem writeByte_waiting (s : State) (a : Addr) (v : Byte) : (writeByte s a v).waiting = s.waiting := by
  unfold writeByte; split <;> simp
@[simp] theorem writeByte_inhibitOnce (s : State) (a : Addr) (v : Byte) : (writeByte s a v).inhibitOnce = s.inhibitOnce := by
  unfold writeByte; split <;> simp
@[simp] theorem writeByte_iAccept (s : State) (a : Addr) (v : Byte) : (writeByte s a v).iAccept = s.iAccept := by
  unfold writeByte; split <;> simp
@[simp] theorem writeByte_boundaryTaken (s : State) (a : Addr) (v : Byte) : (writeByte s a v).boundaryTaken = s.boundaryTaken := by
  unfold writeByte; split <;> simp
@[simp] theorem writeByte_stepReq (s : State) (a : Addr) (v : Byte) : (writeByte s a v).stepReq = s.stepReq := by
  unfold writeByte; split <;> simp
@[simp] theorem writeByte_layout (s : State) (a : Addr) (v : Byte) : (writeByte s a v).layout = s.layout := by
  unfold writeByte; split <;> simp
@[simp] theorem writeByte_resetReq (s : State) (a : Addr) (v : Byte) : (writeByte s a v).resetReq = s.resetReq := by
  unfold writeByte; split <;> simp
@[simp] theorem writeByte_freeCount (s : State) (a : Addr) (v : Byte) : (writeByte s a v).freeCount = s.freeCount := by
  unfold writeByte; split <;> simp

/-- What a data write does: a device access in the SFR area, a byte of the image elsewhere, and nothing more (R71, R72). -/
theorem writeByte_spec (s : State) (a : Addr) (v : Byte) :
    writeByte s a v = s.deviceAccess (.write a v) ∧ s.layout.isWritable a = false ∨
    writeByte s a v = { s with mem := Memory.set s.mem a.toNat v } ∧ s.layout.isWritable a = true := by
  unfold writeByte; cases h : s.layout.isWritable a <;> simp

/-- A data write keeps the canonical form of memory. -/
theorem writeByte_wf (s : State) (a : Addr) (v : Byte) (h : Memory.wf s.mem = true) : Memory.wf (writeByte s a v).mem = true := by
  obtain ⟨e, -⟩ | ⟨e, -⟩ := writeByte_spec s a v <;> rw [e]
  · exact h
  · exact Memory.wf_set s.mem a v h

/-- A write to writable memory is read back (R80). -/
theorem writeByte_peek_same (s : State) (a : Addr) (v : Byte) (hm : Memory.wf s.mem = true) (h : s.layout.isWritable a = true) :
    (writeByte s a v).peek a = v := by
  simp only [writeByte, h, State.peek]
  exact Memory.get_set_same s.mem a.toNat v 0 hm

/-- A write leaves every other byte of the image alone. -/
theorem writeByte_peek_ne (s : State) (a b : Addr) (v : Byte) (h : b ≠ a) : (writeByte s a v).peek b = s.peek b := by
  obtain ⟨e, -⟩ | ⟨e, -⟩ := writeByte_spec s a v <;> rw [e]
  · rfl
  · exact Memory.get_set_ne s.mem a.toNat b.toNat v (fun e => h (BitVec.eq_of_toNat_eq e))

/-- A write outside writable memory leaves the whole image alone (R71, R72, log 4, log 8). -/
theorem writeByte_peek_not_writable (s : State) (a b : Addr) (v : Byte) (h : s.layout.isWritable a = false) : (writeByte s a v).peek b = s.peek b := by
  simp [writeByte, h, State.peek]

@[simp] theorem afterRead_peek (s : State) (a b : Addr) : (s.afterRead a).peek b = s.peek b := by
  simp [State.peek]

@[simp] theorem write16_bank0 (s : State) (a : Addr) (v : Word) : (write16 s a v).bank0 = s.bank0 := by
  simp [write16]
@[simp] theorem write16_bank1 (s : State) (a : Addr) (v : Word) : (write16 s a v).bank1 = s.bank1 := by
  simp [write16]
@[simp] theorem write16_pc (s : State) (a : Addr) (v : Word) : (write16 s a v).pc = s.pc := by
  simp [write16]
@[simp] theorem write16_intb (s : State) (a : Addr) (v : Word) : (write16 s a v).intb = s.intb := by
  simp [write16]
@[simp] theorem write16_usp (s : State) (a : Addr) (v : Word) : (write16 s a v).usp = s.usp := by
  simp [write16]
@[simp] theorem write16_isp (s : State) (a : Addr) (v : Word) : (write16 s a v).isp = s.isp := by
  simp [write16]
@[simp] theorem write16_sb (s : State) (a : Addr) (v : Word) : (write16 s a v).sb = s.sb := by
  simp [write16]
@[simp] theorem write16_flg (s : State) (a : Addr) (v : Word) : (write16 s a v).flg = s.flg := by
  simp [write16]
@[simp] theorem write16_waiting (s : State) (a : Addr) (v : Word) : (write16 s a v).waiting = s.waiting := by
  simp [write16]
@[simp] theorem write16_inhibitOnce (s : State) (a : Addr) (v : Word) : (write16 s a v).inhibitOnce = s.inhibitOnce := by
  simp [write16]
@[simp] theorem write16_iAccept (s : State) (a : Addr) (v : Word) : (write16 s a v).iAccept = s.iAccept := by
  simp [write16]
@[simp] theorem write16_boundaryTaken (s : State) (a : Addr) (v : Word) : (write16 s a v).boundaryTaken = s.boundaryTaken := by
  simp [write16]
@[simp] theorem write16_stepReq (s : State) (a : Addr) (v : Word) : (write16 s a v).stepReq = s.stepReq := by
  simp [write16]
@[simp] theorem write16_layout (s : State) (a : Addr) (v : Word) : (write16 s a v).layout = s.layout := by
  simp [write16]
@[simp] theorem write16_resetReq (s : State) (a : Addr) (v : Word) : (write16 s a v).resetReq = s.resetReq := by
  simp [write16]
@[simp] theorem write16_freeCount (s : State) (a : Addr) (v : Word) : (write16 s a v).freeCount = s.freeCount := by
  simp [write16]

theorem write16_wf (s : State) (a : Addr) (v : Word) (h : Memory.wf s.mem = true) : Memory.wf (write16 s a v).mem = true :=
  writeByte_wf _ _ _ (writeByte_wf _ _ _ h)

@[simp] theorem write24_bank0 (s : State) (a : Addr) (v : BitVec 24) : (write24 s a v).bank0 = s.bank0 := by
  simp [write24]
@[simp] theorem write24_bank1 (s : State) (a : Addr) (v : BitVec 24) : (write24 s a v).bank1 = s.bank1 := by
  simp [write24]
@[simp] theorem write24_pc (s : State) (a : Addr) (v : BitVec 24) : (write24 s a v).pc = s.pc := by
  simp [write24]
@[simp] theorem write24_intb (s : State) (a : Addr) (v : BitVec 24) : (write24 s a v).intb = s.intb := by
  simp [write24]
@[simp] theorem write24_usp (s : State) (a : Addr) (v : BitVec 24) : (write24 s a v).usp = s.usp := by
  simp [write24]
@[simp] theorem write24_isp (s : State) (a : Addr) (v : BitVec 24) : (write24 s a v).isp = s.isp := by
  simp [write24]
@[simp] theorem write24_sb (s : State) (a : Addr) (v : BitVec 24) : (write24 s a v).sb = s.sb := by
  simp [write24]
@[simp] theorem write24_flg (s : State) (a : Addr) (v : BitVec 24) : (write24 s a v).flg = s.flg := by
  simp [write24]
@[simp] theorem write24_waiting (s : State) (a : Addr) (v : BitVec 24) : (write24 s a v).waiting = s.waiting := by
  simp [write24]
@[simp] theorem write24_inhibitOnce (s : State) (a : Addr) (v : BitVec 24) : (write24 s a v).inhibitOnce = s.inhibitOnce := by
  simp [write24]
@[simp] theorem write24_iAccept (s : State) (a : Addr) (v : BitVec 24) : (write24 s a v).iAccept = s.iAccept := by
  simp [write24]
@[simp] theorem write24_boundaryTaken (s : State) (a : Addr) (v : BitVec 24) : (write24 s a v).boundaryTaken = s.boundaryTaken := by
  simp [write24]
@[simp] theorem write24_stepReq (s : State) (a : Addr) (v : BitVec 24) : (write24 s a v).stepReq = s.stepReq := by
  simp [write24]
@[simp] theorem write24_layout (s : State) (a : Addr) (v : BitVec 24) : (write24 s a v).layout = s.layout := by
  simp [write24]
@[simp] theorem write24_resetReq (s : State) (a : Addr) (v : BitVec 24) : (write24 s a v).resetReq = s.resetReq := by
  simp [write24]
@[simp] theorem write24_freeCount (s : State) (a : Addr) (v : BitVec 24) : (write24 s a v).freeCount = s.freeCount := by
  simp [write24]

theorem write24_wf (s : State) (a : Addr) (v : BitVec 24) (h : Memory.wf s.mem = true) : Memory.wf (write24 s a v).mem = true :=
  writeByte_wf _ _ _ (write16_wf _ _ _ h)

@[simp] theorem write32_bank0 (s : State) (a : Addr) (v : Long) : (write32 s a v).bank0 = s.bank0 := by
  simp [write32]
@[simp] theorem write32_bank1 (s : State) (a : Addr) (v : Long) : (write32 s a v).bank1 = s.bank1 := by
  simp [write32]
@[simp] theorem write32_pc (s : State) (a : Addr) (v : Long) : (write32 s a v).pc = s.pc := by
  simp [write32]
@[simp] theorem write32_intb (s : State) (a : Addr) (v : Long) : (write32 s a v).intb = s.intb := by
  simp [write32]
@[simp] theorem write32_usp (s : State) (a : Addr) (v : Long) : (write32 s a v).usp = s.usp := by
  simp [write32]
@[simp] theorem write32_isp (s : State) (a : Addr) (v : Long) : (write32 s a v).isp = s.isp := by
  simp [write32]
@[simp] theorem write32_sb (s : State) (a : Addr) (v : Long) : (write32 s a v).sb = s.sb := by
  simp [write32]
@[simp] theorem write32_flg (s : State) (a : Addr) (v : Long) : (write32 s a v).flg = s.flg := by
  simp [write32]
@[simp] theorem write32_waiting (s : State) (a : Addr) (v : Long) : (write32 s a v).waiting = s.waiting := by
  simp [write32]
@[simp] theorem write32_inhibitOnce (s : State) (a : Addr) (v : Long) : (write32 s a v).inhibitOnce = s.inhibitOnce := by
  simp [write32]
@[simp] theorem write32_iAccept (s : State) (a : Addr) (v : Long) : (write32 s a v).iAccept = s.iAccept := by
  simp [write32]
@[simp] theorem write32_boundaryTaken (s : State) (a : Addr) (v : Long) : (write32 s a v).boundaryTaken = s.boundaryTaken := by
  simp [write32]
@[simp] theorem write32_stepReq (s : State) (a : Addr) (v : Long) : (write32 s a v).stepReq = s.stepReq := by
  simp [write32]
@[simp] theorem write32_layout (s : State) (a : Addr) (v : Long) : (write32 s a v).layout = s.layout := by
  simp [write32]
@[simp] theorem write32_resetReq (s : State) (a : Addr) (v : Long) : (write32 s a v).resetReq = s.resetReq := by
  simp [write32]
@[simp] theorem write32_freeCount (s : State) (a : Addr) (v : Long) : (write32 s a v).freeCount = s.freeCount := by
  simp [write32]

theorem write32_wf (s : State) (a : Addr) (v : Long) (h : Memory.wf s.mem = true) : Memory.wf (write32 s a v).mem = true :=
  write16_wf _ _ _ (write16_wf _ _ _ h)

/-- A word write leaves every byte of the image alone but the two it stores to (R63). -/
theorem write16_peek_ne (s : State) (a b : Addr) (v : Word) (h0 : b ≠ a) (h1 : b ≠ a + 1) :
    (write16 s a v).peek b = s.peek b := by
  simp only [write16]
  rw [writeByte_peek_ne _ _ _ _ h1, writeByte_peek_ne _ _ _ _ h0]

theorem addr_ne_succ (a : Addr) : a ≠ a + 1 := by
  intro h; have := congrArg BitVec.toNat h; simp only [BitVec.toNat_add] at this; have := a.isLt; simp at *

/-- The bytes of a word write, low byte first (R63). -/
theorem write16_peek_lo (s : State) (a : Addr) (v : Word) (hm : Memory.wf s.mem = true) (h : s.layout.isWritable a = true) :
    (write16 s a v).peek a = loByte v := by
  simp only [write16]
  rw [writeByte_peek_ne _ _ _ _ (addr_ne_succ a), writeByte_peek_same _ _ _ hm h]

theorem write16_peek_hi (s : State) (a : Addr) (v : Word) (hm : Memory.wf s.mem = true) (h : s.layout.isWritable (a + 1) = true) :
    (write16 s a v).peek (a + 1) = hiByte v :=
  writeByte_peek_same _ _ _ (writeByte_wf _ _ _ hm) (by simpa using h)

/-! ### Updates that do not touch memory -/

@[simp] theorem setFlg_peek (s : State) (f : Flg) (b : Addr) : (s.setFlg f).peek b = s.peek b := by
  simp [State.peek]
@[simp] theorem setSp_peek (s : State) (v : Word) (b : Addr) : (s.setSp v).peek b = s.peek b := by
  simp [State.peek]
@[simp] theorem setBank_peek (s : State) (k : Bank) (b : Addr) : (s.setBank k).peek b = s.peek b := by
  simp [State.peek]
@[simp] theorem setWord_peek (s : State) (r : DReg) (v : Word) (b : Addr) : (s.setWord r v).peek b = s.peek b := by
  simp [State.peek]
@[simp] theorem setByte_peek (s : State) (r : DReg) (v : Byte) (b : Addr) : (s.setByte r v).peek b = s.peek b := by
  simp [State.peek]
@[simp] theorem setAreg_peek (s : State) (a : AReg) (v : Word) (b : Addr) : (s.setAreg a v).peek b = s.peek b := by
  simp [State.peek]
@[simp] theorem setFb_peek (s : State) (v : Word) (b : Addr) : (s.setFb v).peek b = s.peek b := by
  simp [State.peek]
@[simp] theorem setPair_peek (s : State) (p : Pair) (v : Long) (b : Addr) : (s.setPair p v).peek b = s.peek b := by
  simp [State.peek]
@[simp] theorem setApair_peek (s : State) (p : APair) (v : Long) (b : Addr) : (s.setApair p v).peek b = s.peek b := by
  simp [State.peek]
@[simp] theorem draw_peek (s : State)  (b : Addr) : ((draw s).2).peek b = s.peek b := by
  simp [State.peek]
@[simp] theorem inhibit_peek (s : State)  (b : Addr) : (s.inhibit).peek b = s.peek b := by
  simp [State.peek]

end Sys2Proof.Machine
end

