-- ==== Sys2Proof/Laws/Ops.lean ====
section
/-! SUPPORT. One lemma for each shared operation that says what it can do: the stack, the register lists, operands, how an instruction ends,
the interrupt sequence and the return from it. -/

namespace Sys2Proof.Machine

/-! ### How an instruction ends -/

/-- All that `retireAt` can answer. -/
theorem retireAt_next (i : Instr) (t : Addr) (s u : State) :
    retireAt i t s = .next u ↔ i.selectable = true ∧ u = { s with pc := t } := by
  unfold retireAt
  split
  · rename_i h; simp [h, eq_comm]
  · rename_i h; simp [h]

/-- All that `retire` can answer (R29). -/
theorem retire_next (i : Instr) (s u : State) :
    retire i s = .next u ↔ i.selectable = true ∧ u = { s with pc := s.nextPc i } := retireAt_next i _ s u

/-- A selectable instruction completes. -/
theorem retireAt_selectable (i : Instr) (t : Addr) (s : State) (h : i.selectable = true) :
    retireAt i t s = .next { s with pc := t } := (retireAt_next i t s _).2 ⟨h, rfl⟩

theorem retire_selectable (i : Instr) (s : State) (h : i.selectable = true) :
    retire i s = .next { s with pc := s.nextPc i } := (retire_next i s _).2 ⟨h, rfl⟩

/-! ### The stack -/

@[simp] theorem push8_bank0 (s : State) (v : Byte) : (push8 s v).bank0 = s.bank0 := by
  simp [push8]
@[simp] theorem push8_bank1 (s : State) (v : Byte) : (push8 s v).bank1 = s.bank1 := by
  simp [push8]
@[simp] theorem push8_pc (s : State) (v : Byte) : (push8 s v).pc = s.pc := by
  simp [push8]
@[simp] theorem push8_intb (s : State) (v : Byte) : (push8 s v).intb = s.intb := by
  simp [push8]
@[simp] theorem push8_sb (s : State) (v : Byte) : (push8 s v).sb = s.sb := by
  simp [push8]
@[simp] theorem push8_flg (s : State) (v : Byte) : (push8 s v).flg = s.flg := by
  simp [push8]
@[simp] theorem push8_waiting (s : State) (v : Byte) : (push8 s v).waiting = s.waiting := by
  simp [push8]
@[simp] theorem push8_inhibitOnce (s : State) (v : Byte) : (push8 s v).inhibitOnce = s.inhibitOnce := by
  simp [push8]
@[simp] theorem push8_iAccept (s : State) (v : Byte) : (push8 s v).iAccept = s.iAccept := by
  simp [push8]
@[simp] theorem push8_boundaryTaken (s : State) (v : Byte) : (push8 s v).boundaryTaken = s.boundaryTaken := by
  simp [push8]
@[simp] theorem push8_stepReq (s : State) (v : Byte) : (push8 s v).stepReq = s.stepReq := by
  simp [push8]
@[simp] theorem push8_layout (s : State) (v : Byte) : (push8 s v).layout = s.layout := by
  simp [push8]
@[simp] theorem push8_resetReq (s : State) (v : Byte) : (push8 s v).resetReq = s.resetReq := by
  simp [push8]
@[simp] theorem push8_freeCount (s : State) (v : Byte) : (push8 s v).freeCount = s.freeCount := by
  simp [push8]

@[simp] theorem push16_bank0 (s : State) (v : Word) : (push16 s v).bank0 = s.bank0 := by
  simp [push16]
@[simp] theorem push16_bank1 (s : State) (v : Word) : (push16 s v).bank1 = s.bank1 := by
  simp [push16]
@[simp] theorem push16_pc (s : State) (v : Word) : (push16 s v).pc = s.pc := by
  simp [push16]
@[simp] theorem push16_intb (s : State) (v : Word) : (push16 s v).intb = s.intb := by
  simp [push16]
@[simp] theorem push16_sb (s : State) (v : Word) : (push16 s v).sb = s.sb := by
  simp [push16]
@[simp] theorem push16_flg (s : State) (v : Word) : (push16 s v).flg = s.flg := by
  simp [push16]
@[simp] theorem push16_waiting (s : State) (v : Word) : (push16 s v).waiting = s.waiting := by
  simp [push16]
@[simp] theorem push16_inhibitOnce (s : State) (v : Word) : (push16 s v).inhibitOnce = s.inhibitOnce := by
  simp [push16]
@[simp] theorem push16_iAccept (s : State) (v : Word) : (push16 s v).iAccept = s.iAccept := by
  simp [push16]
@[simp] theorem push16_boundaryTaken (s : State) (v : Word) : (push16 s v).boundaryTaken = s.boundaryTaken := by
  simp [push16]
@[simp] theorem push16_stepReq (s : State) (v : Word) : (push16 s v).stepReq = s.stepReq := by
  simp [push16]
@[simp] theorem push16_layout (s : State) (v : Word) : (push16 s v).layout = s.layout := by
  simp [push16]
@[simp] theorem push16_resetReq (s : State) (v : Word) : (push16 s v).resetReq = s.resetReq := by
  simp [push16]
@[simp] theorem push16_freeCount (s : State) (v : Word) : (push16 s v).freeCount = s.freeCount := by
  simp [push16]

@[simp] theorem pushRet_bank0 (s : State) (a : Addr) : (pushRet s a).bank0 = s.bank0 := by
  simp [pushRet]
@[simp] theorem pushRet_bank1 (s : State) (a : Addr) : (pushRet s a).bank1 = s.bank1 := by
  simp [pushRet]
@[simp] theorem pushRet_pc (s : State) (a : Addr) : (pushRet s a).pc = s.pc := by
  simp [pushRet]
@[simp] theorem pushRet_intb (s : State) (a : Addr) : (pushRet s a).intb = s.intb := by
  simp [pushRet]
@[simp] theorem pushRet_sb (s : State) (a : Addr) : (pushRet s a).sb = s.sb := by
  simp [pushRet]
@[simp] theorem pushRet_flg (s : State) (a : Addr) : (pushRet s a).flg = s.flg := by
  simp [pushRet]
@[simp] theorem pushRet_waiting (s : State) (a : Addr) : (pushRet s a).waiting = s.waiting := by
  simp [pushRet]
@[simp] theorem pushRet_inhibitOnce (s : State) (a : Addr) : (pushRet s a).inhibitOnce = s.inhibitOnce := by
  simp [pushRet]
@[simp] theorem pushRet_iAccept (s : State) (a : Addr) : (pushRet s a).iAccept = s.iAccept := by
  simp [pushRet]
@[simp] theorem pushRet_boundaryTaken (s : State) (a : Addr) : (pushRet s a).boundaryTaken = s.boundaryTaken := by
  simp [pushRet]
@[simp] theorem pushRet_stepReq (s : State) (a : Addr) : (pushRet s a).stepReq = s.stepReq := by
  simp [pushRet]
@[simp] theorem pushRet_layout (s : State) (a : Addr) : (pushRet s a).layout = s.layout := by
  simp [pushRet]
@[simp] theorem pushRet_resetReq (s : State) (a : Addr) : (pushRet s a).resetReq = s.resetReq := by
  simp [pushRet]
@[simp] theorem pushRet_freeCount (s : State) (a : Addr) : (pushRet s a).freeCount = s.freeCount := by
  simp [pushRet]

@[simp] theorem pop8_snd_bank0 (s : State) : ((pop8 s).2).bank0 = s.bank0 := by
  simp [pop8]
@[simp] theorem pop8_snd_bank1 (s : State) : ((pop8 s).2).bank1 = s.bank1 := by
  simp [pop8]
@[simp] theorem pop8_snd_pc (s : State) : ((pop8 s).2).pc = s.pc := by
  simp [pop8]
@[simp] theorem pop8_snd_intb (s : State) : ((pop8 s).2).intb = s.intb := by
  simp [pop8]
@[simp] theorem pop8_snd_sb (s : State) : ((pop8 s).2).sb = s.sb := by
  simp [pop8]
@[simp] theorem pop8_snd_flg (s : State) : ((pop8 s).2).flg = s.flg := by
  simp [pop8]
@[simp] theorem pop8_snd_mem (s : State) : ((pop8 s).2).mem = s.mem := by
  simp [pop8]
@[simp] theorem pop8_snd_waiting (s : State) : ((pop8 s).2).waiting = s.waiting := by
  simp [pop8]
@[simp] theorem pop8_snd_inhibitOnce (s : State) : ((pop8 s).2).inhibitOnce = s.inhibitOnce := by
  simp [pop8]
@[simp] theorem pop8_snd_iAccept (s : State) : ((pop8 s).2).iAccept = s.iAccept := by
  simp [pop8]
@[simp] theorem pop8_snd_boundaryTaken (s : State) : ((pop8 s).2).boundaryTaken = s.boundaryTaken := by
  simp [pop8]
@[simp] theorem pop8_snd_stepReq (s : State) : ((pop8 s).2).stepReq = s.stepReq := by
  simp [pop8]
@[simp] theorem pop8_snd_layout (s : State) : ((pop8 s).2).layout = s.layout := by
  simp [pop8]
@[simp] theorem pop8_snd_resetReq (s : State) : ((pop8 s).2).resetReq = s.resetReq := by
  simp [pop8]
@[simp] theorem pop8_snd_freeCount (s : State) : ((pop8 s).2).freeCount = s.freeCount := by
  simp [pop8]

@[simp] theorem pop16_snd_bank0 (s : State) : ((pop16 s).2).bank0 = s.bank0 := by
  simp [pop16]
@[simp] theorem pop16_snd_bank1 (s : State) : ((pop16 s).2).bank1 = s.bank1 := by
  simp [pop16]
@[simp] theorem pop16_snd_pc (s : State) : ((pop16 s).2).pc = s.pc := by
  simp [pop16]
@[simp] theorem pop16_snd_intb (s : State) : ((pop16 s).2).intb = s.intb := by
  simp [pop16]
@[simp] theorem pop16_snd_sb (s : State) : ((pop16 s).2).sb = s.sb := by
  simp [pop16]
@[simp] theorem pop16_snd_flg (s : State) : ((pop16 s).2).flg = s.flg := by
  simp [pop16]
@[simp] theorem pop16_snd_mem (s : State) : ((pop16 s).2).mem = s.mem := by
  simp [pop16]
@[simp] theorem pop16_snd_waiting (s : State) : ((pop16 s).2).waiting = s.waiting := by
  simp [pop16]
@[simp] theorem pop16_snd_inhibitOnce (s : State) : ((pop16 s).2).inhibitOnce = s.inhibitOnce := by
  simp [pop16]
@[simp] theorem pop16_snd_iAccept (s : State) : ((pop16 s).2).iAccept = s.iAccept := by
  simp [pop16]
@[simp] theorem pop16_snd_boundaryTaken (s : State) : ((pop16 s).2).boundaryTaken = s.boundaryTaken := by
  simp [pop16]
@[simp] theorem pop16_snd_stepReq (s : State) : ((pop16 s).2).stepReq = s.stepReq := by
  simp [pop16]
@[simp] theorem pop16_snd_layout (s : State) : ((pop16 s).2).layout = s.layout := by
  simp [pop16]
@[simp] theorem pop16_snd_resetReq (s : State) : ((pop16 s).2).resetReq = s.resetReq := by
  simp [pop16]
@[simp] theorem pop16_snd_freeCount (s : State) : ((pop16 s).2).freeCount = s.freeCount := by
  simp [pop16]

@[simp] theorem popRet_snd_bank0 (s : State) : ((popRet s).2).bank0 = s.bank0 := by
  simp [popRet]
@[simp] theorem popRet_snd_bank1 (s : State) : ((popRet s).2).bank1 = s.bank1 := by
  simp [popRet]
@[simp] theorem popRet_snd_pc (s : State) : ((popRet s).2).pc = s.pc := by
  simp [popRet]
@[simp] theorem popRet_snd_intb (s : State) : ((popRet s).2).intb = s.intb := by
  simp [popRet]
@[simp] theorem popRet_snd_sb (s : State) : ((popRet s).2).sb = s.sb := by
  simp [popRet]
@[simp] theorem popRet_snd_flg (s : State) : ((popRet s).2).flg = s.flg := by
  simp [popRet]
@[simp] theorem popRet_snd_mem (s : State) : ((popRet s).2).mem = s.mem := by
  simp [popRet]
@[simp] theorem popRet_snd_waiting (s : State) : ((popRet s).2).waiting = s.waiting := by
  simp [popRet]
@[simp] theorem popRet_snd_inhibitOnce (s : State) : ((popRet s).2).inhibitOnce = s.inhibitOnce := by
  simp [popRet]
@[simp] theorem popRet_snd_iAccept (s : State) : ((popRet s).2).iAccept = s.iAccept := by
  simp [popRet]
@[simp] theorem popRet_snd_boundaryTaken (s : State) : ((popRet s).2).boundaryTaken = s.boundaryTaken := by
  simp [popRet]
@[simp] theorem popRet_snd_stepReq (s : State) : ((popRet s).2).stepReq = s.stepReq := by
  simp [popRet]
@[simp] theorem popRet_snd_layout (s : State) : ((popRet s).2).layout = s.layout := by
  simp [popRet]
@[simp] theorem popRet_snd_resetReq (s : State) : ((popRet s).2).resetReq = s.resetReq := by
  simp [popRet]
@[simp] theorem popRet_snd_freeCount (s : State) : ((popRet s).2).freeCount = s.freeCount := by
  simp [popRet]

theorem push8_wf (s : State) (v : Byte) (h : Memory.wf s.mem = true) : Memory.wf (push8 s v).mem = true :=
  writeByte_wf _ _ _ (by simpa using h)

theorem push16_wf (s : State) (v : Word) (h : Memory.wf s.mem = true) : Memory.wf (push16 s v).mem = true :=
  write16_wf _ _ _ (by simpa using h)

theorem pushRet_wf (s : State) (a : Addr) (h : Memory.wf s.mem = true) : Memory.wf (pushRet s a).mem = true :=
  push16_wf _ _ (push8_wf _ _ h)

/-- A data write keeps the selected stack pointer. -/
@[simp] theorem writeByte_sp (s : State) (a : Addr) (v : Byte) : (writeByte s a v).sp = s.sp := by
  simp [State.sp]

@[simp] theorem write16_sp (s : State) (a : Addr) (v : Word) : (write16 s a v).sp = s.sp := by
  simp [State.sp]

@[simp] theorem afterRead_sp (s : State) (a : Addr) : (s.afterRead a).sp = s.sp := by
  simp [State.sp]

@[simp] theorem writeByte_bank (s : State) (a : Addr) (v : Byte) : (writeByte s a v).bank = s.bank := by
  simp [State.bank]

@[simp] theorem write16_bank (s : State) (a : Addr) (v : Word) : (write16 s a v).bank = s.bank := by
  simp [State.bank]

@[simp] theorem write24_bank (s : State) (a : Addr) (v : BitVec 24) : (write24 s a v).bank = s.bank := by
  simp [State.bank]

@[simp] theorem write32_bank (s : State) (a : Addr) (v : Long) : (write32 s a v).bank = s.bank := by
  simp [State.bank]

@[simp] theorem afterRead_bank (s : State) (a : Addr) : (s.afterRead a).bank = s.bank := by
  simp [State.bank]

/-- A push moves the selected stack pointer down by the size of what it stores (R70). -/
@[simp] theorem push8_sp (s : State) (v : Byte) : (push8 s v).sp = s.sp - 1 := by
  simp [push8]

@[simp] theorem push16_sp (s : State) (v : Word) : (push16 s v).sp = s.sp - 2 := by
  simp [push16]

@[simp] theorem pushRet_sp (s : State) (a : Addr) : (pushRet s a).sp = s.sp - 3 := by
  simp only [pushRet, push16_sp, push8_sp]; bv_omega

/-- A pop moves the selected stack pointer up (R70). -/
@[simp] theorem pop8_snd_sp (s : State) : (pop8 s).2.sp = s.sp + 1 := by
  simp [pop8]

@[simp] theorem pop16_snd_sp (s : State) : (pop16 s).2.sp = s.sp + 2 := by
  simp [pop16]

/-- The two bytes a word push stores, and nothing else of the image (R63, R70). -/
theorem push16_peek_ne (s : State) (v : Word) (b : Addr) (h0 : b ≠ zext20 (s.sp - 2)) (h1 : b ≠ zext20 (s.sp - 2) + 1) :
    (push16 s v).peek b = s.peek b := by
  rw [push16, write16_peek_ne _ _ _ _ h0 h1, setSp_peek]

theorem push8_peek_ne (s : State) (v : Byte) (b : Addr) (h : b ≠ zext20 (s.sp - 1)) : (push8 s v).peek b = s.peek b := by
  rw [push8, writeByte_peek_ne _ _ _ _ h, setSp_peek]

/-! ### Operands -/

/-- Reading a source changes nothing but the device behind the SFR area. -/
theorem readSrc8_snd (s : State) (x : Operand) :
    (readSrc8 s x).2 = s ∨ ∃ m, x = .mem m ∧ (readSrc8 s x).2 = s.afterRead (s.ea m) := by
  cases x with
  | dreg r => exact .inl rfl
  | areg a => exact .inl rfl
  | mem m => exact .inr ⟨m, rfl, rfl⟩

theorem readSrc16_snd (s : State) (x : Operand) :
    (readSrc16 s x).2 = s ∨ ∃ m, x = .mem m ∧ (readSrc16 s x).2 = (s.afterRead (s.ea m)).afterRead (s.ea m + 1) := by
  cases x with
  | dreg r => exact .inl rfl
  | areg a => exact .inl rfl
  | mem m => exact .inr ⟨m, rfl, rfl⟩

@[simp] theorem readSrc8_snd_bank0 (s : State) (x : Operand) : ((readSrc8 s x).2).bank0 = s.bank0 := by
  cases x <;> simp [readSrc8]
@[simp] theorem readSrc8_snd_bank1 (s : State) (x : Operand) : ((readSrc8 s x).2).bank1 = s.bank1 := by
  cases x <;> simp [readSrc8]
@[simp] theorem readSrc8_snd_pc (s : State) (x : Operand) : ((readSrc8 s x).2).pc = s.pc := by
  cases x <;> simp [readSrc8]
@[simp] theorem readSrc8_snd_intb (s : State) (x : Operand) : ((readSrc8 s x).2).intb = s.intb := by
  cases x <;> simp [readSrc8]
@[simp] theorem readSrc8_snd_usp (s : State) (x : Operand) : ((readSrc8 s x).2).usp = s.usp := by
  cases x <;> simp [readSrc8]
@[simp] theorem readSrc8_snd_isp (s : State) (x : Operand) : ((readSrc8 s x).2).isp = s.isp := by
  cases x <;> simp [readSrc8]
@[simp] theorem readSrc8_snd_sb (s : State) (x : Operand) : ((readSrc8 s x).2).sb = s.sb := by
  cases x <;> simp [readSrc8]
@[simp] theorem readSrc8_snd_flg (s : State) (x : Operand) : ((readSrc8 s x).2).flg = s.flg := by
  cases x <;> simp [readSrc8]
@[simp] theorem readSrc8_snd_mem (s : State) (x : Operand) : ((readSrc8 s x).2).mem = s.mem := by
  cases x <;> simp [readSrc8]
@[simp] theorem readSrc8_snd_waiting (s : State) (x : Operand) : ((readSrc8 s x).2).waiting = s.waiting := by
  cases x <;> simp [readSrc8]
@[simp] theorem readSrc8_snd_inhibitOnce (s : State) (x : Operand) : ((readSrc8 s x).2).inhibitOnce = s.inhibitOnce := by
  cases x <;> simp [readSrc8]
@[simp] theorem readSrc8_snd_iAccept (s : State) (x : Operand) : ((readSrc8 s x).2).iAccept = s.iAccept := by
  cases x <;> simp [readSrc8]
@[simp] theorem readSrc8_snd_boundaryTaken (s : State) (x : Operand) : ((readSrc8 s x).2).boundaryTaken = s.boundaryTaken := by
  cases x <;> simp [readSrc8]
@[simp] theorem readSrc8_snd_stepReq (s : State) (x : Operand) : ((readSrc8 s x).2).stepReq = s.stepReq := by
  cases x <;> simp [readSrc8]
@[simp] theorem readSrc8_snd_layout (s : State) (x : Operand) : ((readSrc8 s x).2).layout = s.layout := by
  cases x <;> simp [readSrc8]
@[simp] theorem readSrc8_snd_resetReq (s : State) (x : Operand) : ((readSrc8 s x).2).resetReq = s.resetReq := by
  cases x <;> simp [readSrc8]
@[simp] theorem readSrc8_snd_freeCount (s : State) (x : Operand) : ((readSrc8 s x).2).freeCount = s.freeCount := by
  cases x <;> simp [readSrc8]

@[simp] theorem readSrc16_snd_bank0 (s : State) (x : Operand) : ((readSrc16 s x).2).bank0 = s.bank0 := by
  cases x <;> simp [readSrc16]
@[simp] theorem readSrc16_snd_bank1 (s : State) (x : Operand) : ((readSrc16 s x).2).bank1 = s.bank1 := by
  cases x <;> simp [readSrc16]
@[simp] theorem readSrc16_snd_pc (s : State) (x : Operand) : ((readSrc16 s x).2).pc = s.pc := by
  cases x <;> simp [readSrc16]
@[simp] theorem readSrc16_snd_intb (s : State) (x : Operand) : ((readSrc16 s x).2).intb = s.intb := by
  cases x <;> simp [readSrc16]
@[simp] theorem readSrc16_snd_usp (s : State) (x : Operand) : ((readSrc16 s x).2).usp = s.usp := by
  cases x <;> simp [readSrc16]
@[simp] theorem readSrc16_snd_isp (s : State) (x : Operand) : ((readSrc16 s x).2).isp = s.isp := by
  cases x <;> simp [readSrc16]
@[simp] theorem readSrc16_snd_sb (s : State) (x : Operand) : ((readSrc16 s x).2).sb = s.sb := by
  cases x <;> simp [readSrc16]
@[simp] theorem readSrc16_snd_flg (s : State) (x : Operand) : ((readSrc16 s x).2).flg = s.flg := by
  cases x <;> simp [readSrc16]
@[simp] theorem readSrc16_snd_mem (s : State) (x : Operand) : ((readSrc16 s x).2).mem = s.mem := by
  cases x <;> simp [readSrc16]
@[simp] theorem readSrc16_snd_waiting (s : State) (x : Operand) : ((readSrc16 s x).2).waiting = s.waiting := by
  cases x <;> simp [readSrc16]
@[simp] theorem readSrc16_snd_inhibitOnce (s : State) (x : Operand) : ((readSrc16 s x).2).inhibitOnce = s.inhibitOnce := by
  cases x <;> simp [readSrc16]
@[simp] theorem readSrc16_snd_iAccept (s : State) (x : Operand) : ((readSrc16 s x).2).iAccept = s.iAccept := by
  cases x <;> simp [readSrc16]
@[simp] theorem readSrc16_snd_boundaryTaken (s : State) (x : Operand) : ((readSrc16 s x).2).boundaryTaken = s.boundaryTaken := by
  cases x <;> simp [readSrc16]
@[simp] theorem readSrc16_snd_stepReq (s : State) (x : Operand) : ((readSrc16 s x).2).stepReq = s.stepReq := by
  cases x <;> simp [readSrc16]
@[simp] theorem readSrc16_snd_layout (s : State) (x : Operand) : ((readSrc16 s x).2).layout = s.layout := by
  cases x <;> simp [readSrc16]
@[simp] theorem readSrc16_snd_resetReq (s : State) (x : Operand) : ((readSrc16 s x).2).resetReq = s.resetReq := by
  cases x <;> simp [readSrc16]
@[simp] theorem readSrc16_snd_freeCount (s : State) (x : Operand) : ((readSrc16 s x).2).freeCount = s.freeCount := by
  cases x <;> simp [readSrc16]

@[simp] theorem writeDest8_pc (s : State) (x : Operand) (v : Byte) : (writeDest8 s x v).pc = s.pc := by
  cases x <;> simp [writeDest8]
@[simp] theorem writeDest8_intb (s : State) (x : Operand) (v : Byte) : (writeDest8 s x v).intb = s.intb := by
  cases x <;> simp [writeDest8]
@[simp] theorem writeDest8_usp (s : State) (x : Operand) (v : Byte) : (writeDest8 s x v).usp = s.usp := by
  cases x <;> simp [writeDest8]
@[simp] theorem writeDest8_isp (s : State) (x : Operand) (v : Byte) : (writeDest8 s x v).isp = s.isp := by
  cases x <;> simp [writeDest8]
@[simp] theorem writeDest8_sb (s : State) (x : Operand) (v : Byte) : (writeDest8 s x v).sb = s.sb := by
  cases x <;> simp [writeDest8]
@[simp] theorem writeDest8_flg (s : State) (x : Operand) (v : Byte) : (writeDest8 s x v).flg = s.flg := by
  cases x <;> simp [writeDest8]
@[simp] theorem writeDest8_waiting (s : State) (x : Operand) (v : Byte) : (writeDest8 s x v).waiting = s.waiting := by
  cases x <;> simp [writeDest8]
@[simp] theorem writeDest8_inhibitOnce (s : State) (x : Operand) (v : Byte) : (writeDest8 s x v).inhibitOnce = s.inhibitOnce := by
  cases x <;> simp [writeDest8]
@[simp] theorem writeDest8_iAccept (s : State) (x : Operand) (v : Byte) : (writeDest8 s x v).iAccept = s.iAccept := by
  cases x <;> simp [writeDest8]
@[simp] theorem writeDest8_boundaryTaken (s : State) (x : Operand) (v : Byte) : (writeDest8 s x v).boundaryTaken = s.boundaryTaken := by
  cases x <;> simp [writeDest8]
@[simp] theorem writeDest8_stepReq (s : State) (x : Operand) (v : Byte) : (writeDest8 s x v).stepReq = s.stepReq := by
  cases x <;> simp [writeDest8]
@[simp] theorem writeDest8_layout (s : State) (x : Operand) (v : Byte) : (writeDest8 s x v).layout = s.layout := by
  cases x <;> simp [writeDest8]
@[simp] theorem writeDest8_resetReq (s : State) (x : Operand) (v : Byte) : (writeDest8 s x v).resetReq = s.resetReq := by
  cases x <;> simp [writeDest8]
@[simp] theorem writeDest8_freeCount (s : State) (x : Operand) (v : Byte) : (writeDest8 s x v).freeCount = s.freeCount := by
  cases x <;> simp [writeDest8]

@[simp] theorem writeDest16_pc (s : State) (x : Operand) (v : Word) : (writeDest16 s x v).pc = s.pc := by
  cases x <;> simp [writeDest16]
@[simp] theorem writeDest16_intb (s : State) (x : Operand) (v : Word) : (writeDest16 s x v).intb = s.intb := by
  cases x <;> simp [writeDest16]
@[simp] theorem writeDest16_usp (s : State) (x : Operand) (v : Word) : (writeDest16 s x v).usp = s.usp := by
  cases x <;> simp [writeDest16]
@[simp] theorem writeDest16_isp (s : State) (x : Operand) (v : Word) : (writeDest16 s x v).isp = s.isp := by
  cases x <;> simp [writeDest16]
@[simp] theorem writeDest16_sb (s : State) (x : Operand) (v : Word) : (writeDest16 s x v).sb = s.sb := by
  cases x <;> simp [writeDest16]
@[simp] theorem writeDest16_flg (s : State) (x : Operand) (v : Word) : (writeDest16 s x v).flg = s.flg := by
  cases x <;> simp [writeDest16]
@[simp] theorem writeDest16_waiting (s : State) (x : Operand) (v : Word) : (writeDest16 s x v).waiting = s.waiting := by
  cases x <;> simp [writeDest16]
@[simp] theorem writeDest16_inhibitOnce (s : State) (x : Operand) (v : Word) : (writeDest16 s x v).inhibitOnce = s.inhibitOnce := by
  cases x <;> simp [writeDest16]
@[simp] theorem writeDest16_iAccept (s : State) (x : Operand) (v : Word) : (writeDest16 s x v).iAccept = s.iAccept := by
  cases x <;> simp [writeDest16]
@[simp] theorem writeDest16_boundaryTaken (s : State) (x : Operand) (v : Word) : (writeDest16 s x v).boundaryTaken = s.boundaryTaken := by
  cases x <;> simp [writeDest16]
@[simp] theorem writeDest16_stepReq (s : State) (x : Operand) (v : Word) : (writeDest16 s x v).stepReq = s.stepReq := by
  cases x <;> simp [writeDest16]
@[simp] theorem writeDest16_layout (s : State) (x : Operand) (v : Word) : (writeDest16 s x v).layout = s.layout := by
  cases x <;> simp [writeDest16]
@[simp] theorem writeDest16_resetReq (s : State) (x : Operand) (v : Word) : (writeDest16 s x v).resetReq = s.resetReq := by
  cases x <;> simp [writeDest16]
@[simp] theorem writeDest16_freeCount (s : State) (x : Operand) (v : Word) : (writeDest16 s x v).freeCount = s.freeCount := by
  cases x <;> simp [writeDest16]

@[simp] theorem update8_pc (s : State) (op : Binary) (v : Byte) (x : Operand) : (update8 op v x s).pc = s.pc := by
  cases x <;> simp [update8]
@[simp] theorem update8_intb (s : State) (op : Binary) (v : Byte) (x : Operand) : (update8 op v x s).intb = s.intb := by
  cases x <;> simp [update8]
@[simp] theorem update8_usp (s : State) (op : Binary) (v : Byte) (x : Operand) : (update8 op v x s).usp = s.usp := by
  cases x <;> simp [update8]
@[simp] theorem update8_isp (s : State) (op : Binary) (v : Byte) (x : Operand) : (update8 op v x s).isp = s.isp := by
  cases x <;> simp [update8]
@[simp] theorem update8_sb (s : State) (op : Binary) (v : Byte) (x : Operand) : (update8 op v x s).sb = s.sb := by
  cases x <;> simp [update8]
@[simp] theorem update8_waiting (s : State) (op : Binary) (v : Byte) (x : Operand) : (update8 op v x s).waiting = s.waiting := by
  cases x <;> simp [update8]
@[simp] theorem update8_inhibitOnce (s : State) (op : Binary) (v : Byte) (x : Operand) : (update8 op v x s).inhibitOnce = s.inhibitOnce := by
  cases x <;> simp [update8]
@[simp] theorem update8_iAccept (s : State) (op : Binary) (v : Byte) (x : Operand) : (update8 op v x s).iAccept = s.iAccept := by
  cases x <;> simp [update8]
@[simp] theorem update8_boundaryTaken (s : State) (op : Binary) (v : Byte) (x : Operand) : (update8 op v x s).boundaryTaken = s.boundaryTaken := by
  cases x <;> simp [update8]
@[simp] theorem update8_stepReq (s : State) (op : Binary) (v : Byte) (x : Operand) : (update8 op v x s).stepReq = s.stepReq := by
  cases x <;> simp [update8]
@[simp] theorem update8_layout (s : State) (op : Binary) (v : Byte) (x : Operand) : (update8 op v x s).layout = s.layout := by
  cases x <;> simp [update8]
@[simp] theorem update8_resetReq (s : State) (op : Binary) (v : Byte) (x : Operand) : (update8 op v x s).resetReq = s.resetReq := by
  cases x <;> simp [update8]
@[simp] theorem update8_freeCount (s : State) (op : Binary) (v : Byte) (x : Operand) : (update8 op v x s).freeCount = s.freeCount := by
  cases x <;> simp [update8]

@[simp] theorem update16_pc (s : State) (op : Binary) (v : Word) (x : Operand) : (update16 op v x s).pc = s.pc := by
  cases x <;> simp [update16]
@[simp] theorem update16_intb (s : State) (op : Binary) (v : Word) (x : Operand) : (update16 op v x s).intb = s.intb := by
  cases x <;> simp [update16]
@[simp] theorem update16_usp (s : State) (op : Binary) (v : Word) (x : Operand) : (update16 op v x s).usp = s.usp := by
  cases x <;> simp [update16]
@[simp] theorem update16_isp (s : State) (op : Binary) (v : Word) (x : Operand) : (update16 op v x s).isp = s.isp := by
  cases x <;> simp [update16]
@[simp] theorem update16_sb (s : State) (op : Binary) (v : Word) (x : Operand) : (update16 op v x s).sb = s.sb := by
  cases x <;> simp [update16]
@[simp] theorem update16_waiting (s : State) (op : Binary) (v : Word) (x : Operand) : (update16 op v x s).waiting = s.waiting := by
  cases x <;> simp [update16]
@[simp] theorem update16_inhibitOnce (s : State) (op : Binary) (v : Word) (x : Operand) : (update16 op v x s).inhibitOnce = s.inhibitOnce := by
  cases x <;> simp [update16]
@[simp] theorem update16_iAccept (s : State) (op : Binary) (v : Word) (x : Operand) : (update16 op v x s).iAccept = s.iAccept := by
  cases x <;> simp [update16]
@[simp] theorem update16_boundaryTaken (s : State) (op : Binary) (v : Word) (x : Operand) : (update16 op v x s).boundaryTaken = s.boundaryTaken := by
  cases x <;> simp [update16]
@[simp] theorem update16_stepReq (s : State) (op : Binary) (v : Word) (x : Operand) : (update16 op v x s).stepReq = s.stepReq := by
  cases x <;> simp [update16]
@[simp] theorem update16_layout (s : State) (op : Binary) (v : Word) (x : Operand) : (update16 op v x s).layout = s.layout := by
  cases x <;> simp [update16]
@[simp] theorem update16_resetReq (s : State) (op : Binary) (v : Word) (x : Operand) : (update16 op v x s).resetReq = s.resetReq := by
  cases x <;> simp [update16]
@[simp] theorem update16_freeCount (s : State) (op : Binary) (v : Word) (x : Operand) : (update16 op v x s).freeCount = s.freeCount := by
  cases x <;> simp [update16]

@[simp] theorem compare8_bank0 (s : State) (op : Compare) (v : Byte) (x : Operand) : (compare8 op v x s).bank0 = s.bank0 := by
  cases x <;> simp [compare8]
@[simp] theorem compare8_bank1 (s : State) (op : Compare) (v : Byte) (x : Operand) : (compare8 op v x s).bank1 = s.bank1 := by
  cases x <;> simp [compare8]
@[simp] theorem compare8_pc (s : State) (op : Compare) (v : Byte) (x : Operand) : (compare8 op v x s).pc = s.pc := by
  cases x <;> simp [compare8]
@[simp] theorem compare8_intb (s : State) (op : Compare) (v : Byte) (x : Operand) : (compare8 op v x s).intb = s.intb := by
  cases x <;> simp [compare8]
@[simp] theorem compare8_usp (s : State) (op : Compare) (v : Byte) (x : Operand) : (compare8 op v x s).usp = s.usp := by
  cases x <;> simp [compare8]
@[simp] theorem compare8_isp (s : State) (op : Compare) (v : Byte) (x : Operand) : (compare8 op v x s).isp = s.isp := by
  cases x <;> simp [compare8]
@[simp] theorem compare8_sb (s : State) (op : Compare) (v : Byte) (x : Operand) : (compare8 op v x s).sb = s.sb := by
  cases x <;> simp [compare8]
@[simp] theorem compare8_mem (s : State) (op : Compare) (v : Byte) (x : Operand) : (compare8 op v x s).mem = s.mem := by
  cases x <;> simp [compare8]
@[simp] theorem compare8_waiting (s : State) (op : Compare) (v : Byte) (x : Operand) : (compare8 op v x s).waiting = s.waiting := by
  cases x <;> simp [compare8]
@[simp] theorem compare8_inhibitOnce (s : State) (op : Compare) (v : Byte) (x : Operand) : (compare8 op v x s).inhibitOnce = s.inhibitOnce := by
  cases x <;> simp [compare8]
@[simp] theorem compare8_iAccept (s : State) (op : Compare) (v : Byte) (x : Operand) : (compare8 op v x s).iAccept = s.iAccept := by
  cases x <;> simp [compare8]
@[simp] theorem compare8_boundaryTaken (s : State) (op : Compare) (v : Byte) (x : Operand) : (compare8 op v x s).boundaryTaken = s.boundaryTaken := by
  cases x <;> simp [compare8]
@[simp] theorem compare8_stepReq (s : State) (op : Compare) (v : Byte) (x : Operand) : (compare8 op v x s).stepReq = s.stepReq := by
  cases x <;> simp [compare8]
@[simp] theorem compare8_layout (s : State) (op : Compare) (v : Byte) (x : Operand) : (compare8 op v x s).layout = s.layout := by
  cases x <;> simp [compare8]
@[simp] theorem compare8_resetReq (s : State) (op : Compare) (v : Byte) (x : Operand) : (compare8 op v x s).resetReq = s.resetReq := by
  cases x <;> simp [compare8]
@[simp] theorem compare8_freeCount (s : State) (op : Compare) (v : Byte) (x : Operand) : (compare8 op v x s).freeCount = s.freeCount := by
  cases x <;> simp [compare8]

@[simp] theorem compare16_bank0 (s : State) (op : Compare) (v : Word) (x : Operand) : (compare16 op v x s).bank0 = s.bank0 := by
  cases x <;> simp [compare16]
@[simp] theorem compare16_bank1 (s : State) (op : Compare) (v : Word) (x : Operand) : (compare16 op v x s).bank1 = s.bank1 := by
  cases x <;> simp [compare16]
@[simp] theorem compare16_pc (s : State) (op : Compare) (v : Word) (x : Operand) : (compare16 op v x s).pc = s.pc := by
  cases x <;> simp [compare16]
@[simp] theorem compare16_intb (s : State) (op : Compare) (v : Word) (x : Operand) : (compare16 op v x s).intb = s.intb := by
  cases x <;> simp [compare16]
@[simp] theorem compare16_usp (s : State) (op : Compare) (v : Word) (x : Operand) : (compare16 op v x s).usp = s.usp := by
  cases x <;> simp [compare16]
@[simp] theorem compare16_isp (s : State) (op : Compare) (v : Word) (x : Operand) : (compare16 op v x s).isp = s.isp := by
  cases x <;> simp [compare16]
@[simp] theorem compare16_sb (s : State) (op : Compare) (v : Word) (x : Operand) : (compare16 op v x s).sb = s.sb := by
  cases x <;> simp [compare16]
@[simp] theorem compare16_mem (s : State) (op : Compare) (v : Word) (x : Operand) : (compare16 op v x s).mem = s.mem := by
  cases x <;> simp [compare16]
@[simp] theorem compare16_waiting (s : State) (op : Compare) (v : Word) (x : Operand) : (compare16 op v x s).waiting = s.waiting := by
  cases x <;> simp [compare16]
@[simp] theorem compare16_inhibitOnce (s : State) (op : Compare) (v : Word) (x : Operand) : (compare16 op v x s).inhibitOnce = s.inhibitOnce := by
  cases x <;> simp [compare16]
@[simp] theorem compare16_iAccept (s : State) (op : Compare) (v : Word) (x : Operand) : (compare16 op v x s).iAccept = s.iAccept := by
  cases x <;> simp [compare16]
@[simp] theorem compare16_boundaryTaken (s : State) (op : Compare) (v : Word) (x : Operand) : (compare16 op v x s).boundaryTaken = s.boundaryTaken := by
  cases x <;> simp [compare16]
@[simp] theorem compare16_stepReq (s : State) (op : Compare) (v : Word) (x : Operand) : (compare16 op v x s).stepReq = s.stepReq := by
  cases x <;> simp [compare16]
@[simp] theorem compare16_layout (s : State) (op : Compare) (v : Word) (x : Operand) : (compare16 op v x s).layout = s.layout := by
  cases x <;> simp [compare16]
@[simp] theorem compare16_resetReq (s : State) (op : Compare) (v : Word) (x : Operand) : (compare16 op v x s).resetReq = s.resetReq := by
  cases x <;> simp [compare16]
@[simp] theorem compare16_freeCount (s : State) (op : Compare) (v : Word) (x : Operand) : (compare16 op v x s).freeCount = s.freeCount := by
  cases x <;> simp [compare16]

/-- A destination write keeps the canonical form of memory. -/
theorem writeDest8_wf (s : State) (x : Operand) (v : Byte) (h : Memory.wf s.mem = true) : Memory.wf (writeDest8 s x v).mem = true := by
  cases x <;> simp only [writeDest8, setByte_mem, setAreg_mem, h]
  exact writeByte_wf _ _ _ h

theorem writeDest16_wf (s : State) (x : Operand) (v : Word) (h : Memory.wf s.mem = true) : Memory.wf (writeDest16 s x v).mem = true := by
  cases x <;> simp only [writeDest16, setWord_mem, setAreg_mem, h]
  exact write16_wf _ _ _ h

theorem update8_wf (op : Binary) (v : Byte) (x : Operand) (s : State) (h : Memory.wf s.mem = true) :
    Memory.wf (update8 op v x s).mem = true := by
  cases x <;> simp only [update8, setFlg_mem, setByte_mem, setAreg_mem, h]
  exact writeByte_wf _ _ _ (by simpa using h)

theorem update16_wf (op : Binary) (v : Word) (x : Operand) (s : State) (h : Memory.wf s.mem = true) :
    Memory.wf (update16 op v x s).mem = true := by
  cases x <;> simp only [update16, setFlg_mem, setWord_mem, setAreg_mem, h]
  exact write16_wf _ _ _ (by simpa using h)

/-! ### Register lists -/

/-- One transfer of a register list: nothing, or the word at the pointer and the pointer two up (R220). -/
theorem loadIf_spec (sel : Bool) (set : State → Word → State) (x : State × Word) :
    loadIf sel set x = if sel then (set (read16 x.1 (zext20 x.2)).2 (read16 x.1 (zext20 x.2)).1, x.2 + 2) else x := rfl

theorem storeIf_spec (sel : Bool) (get : State → Word) (x : State × Word) :
    storeIf sel get x = if sel then (write16 x.1 (zext20 (x.2 - 2)) (get x.1), x.2 - 2) else x := rfl

theorem storeIf_wf (sel : Bool) (get : State → Word) (x : State × Word) (h : Memory.wf x.1.mem = true) :
    Memory.wf (storeIf sel get x).1.mem = true := by
  unfold storeIf; split
  · exact write16_wf _ _ _ h
  · exact h

theorem storeRegs_wf (l : RegList) (s : State) (p : Word) (h : Memory.wf s.mem = true) :
    Memory.wf (storeRegs l s p).1.mem = true := by
  unfold storeRegs
  iterate 8 apply storeIf_wf
  exact h

theorem loadIf_pc (sel : Bool) (set : State → Word → State) (x : State × Word) (h : ∀ s v, (set s v).pc = s.pc) :
    (loadIf sel set x).1.pc = x.1.pc := by
  unfold loadIf; split <;> simp [h]

@[simp] theorem loadRegs_pc (l : RegList) (s : State) (p : Word) : (loadRegs l s p).1.pc = s.pc := by
  unfold loadRegs
  iterate 8 rw [loadIf_pc _ _ _ (by intros; simp)]

theorem loadIf_intb (sel : Bool) (set : State → Word → State) (x : State × Word) (h : ∀ s v, (set s v).intb = s.intb) :
    (loadIf sel set x).1.intb = x.1.intb := by
  unfold loadIf; split <;> simp [h]

@[simp] theorem loadRegs_intb (l : RegList) (s : State) (p : Word) : (loadRegs l s p).1.intb = s.intb := by
  unfold loadRegs
  iterate 8 rw [loadIf_intb _ _ _ (by intros; simp)]

theorem loadIf_usp (sel : Bool) (set : State → Word → State) (x : State × Word) (h : ∀ s v, (set s v).usp = s.usp) :
    (loadIf sel set x).1.usp = x.1.usp := by
  unfold loadIf; split <;> simp [h]

@[simp] theorem loadRegs_usp (l : RegList) (s : State) (p : Word) : (loadRegs l s p).1.usp = s.usp := by
  unfold loadRegs
  iterate 8 rw [loadIf_usp _ _ _ (by intros; simp)]

theorem loadIf_isp (sel : Bool) (set : State → Word → State) (x : State × Word) (h : ∀ s v, (set s v).isp = s.isp) :
    (loadIf sel set x).1.isp = x.1.isp := by
  unfold loadIf; split <;> simp [h]

@[simp] theorem loadRegs_isp (l : RegList) (s : State) (p : Word) : (loadRegs l s p).1.isp = s.isp := by
  unfold loadRegs
  iterate 8 rw [loadIf_isp _ _ _ (by intros; simp)]

theorem loadIf_flg (sel : Bool) (set : State → Word → State) (x : State × Word) (h : ∀ s v, (set s v).flg = s.flg) :
    (loadIf sel set x).1.flg = x.1.flg := by
  unfold loadIf; split <;> simp [h]

@[simp] theorem loadRegs_flg (l : RegList) (s : State) (p : Word) : (loadRegs l s p).1.flg = s.flg := by
  unfold loadRegs
  iterate 8 rw [loadIf_flg _ _ _ (by intros; simp)]

theorem loadIf_mem (sel : Bool) (set : State → Word → State) (x : State × Word) (h : ∀ s v, (set s v).mem = s.mem) :
    (loadIf sel set x).1.mem = x.1.mem := by
  unfold loadIf; split <;> simp [h]

@[simp] theorem loadRegs_mem (l : RegList) (s : State) (p : Word) : (loadRegs l s p).1.mem = s.mem := by
  unfold loadRegs
  iterate 8 rw [loadIf_mem _ _ _ (by intros; simp)]

theorem loadIf_waiting (sel : Bool) (set : State → Word → State) (x : State × Word) (h : ∀ s v, (set s v).waiting = s.waiting) :
    (loadIf sel set x).1.waiting = x.1.waiting := by
  unfold loadIf; split <;> simp [h]

@[simp] theorem loadRegs_waiting (l : RegList) (s : State) (p : Word) : (loadRegs l s p).1.waiting = s.waiting := by
  unfold loadRegs
  iterate 8 rw [loadIf_waiting _ _ _ (by intros; simp)]

theorem loadIf_inhibitOnce (sel : Bool) (set : State → Word → State) (x : State × Word) (h : ∀ s v, (set s v).inhibitOnce = s.inhibitOnce) :
    (loadIf sel set x).1.inhibitOnce = x.1.inhibitOnce := by
  unfold loadIf; split <;> simp [h]

@[simp] theorem loadRegs_inhibitOnce (l : RegList) (s : State) (p : Word) : (loadRegs l s p).1.inhibitOnce = s.inhibitOnce := by
  unfold loadRegs
  iterate 8 rw [loadIf_inhibitOnce _ _ _ (by intros; simp)]

theorem loadIf_iAccept (sel : Bool) (set : State → Word → State) (x : State × Word) (h : ∀ s v, (set s v).iAccept = s.iAccept) :
    (loadIf sel set x).1.iAccept = x.1.iAccept := by
  unfold loadIf; split <;> simp [h]

@[simp] theorem loadRegs_iAccept (l : RegList) (s : State) (p : Word) : (loadRegs l s p).1.iAccept = s.iAccept := by
  unfold loadRegs
  iterate 8 rw [loadIf_iAccept _ _ _ (by intros; simp)]

theorem loadIf_boundaryTaken (sel : Bool) (set : State → Word → State) (x : State × Word) (h : ∀ s v, (set s v).boundaryTaken = s.boundaryTaken) :
    (loadIf sel set x).1.boundaryTaken = x.1.boundaryTaken := by
  unfold loadIf; split <;> simp [h]

@[simp] theorem loadRegs_boundaryTaken (l : RegList) (s : State) (p : Word) : (loadRegs l s p).1.boundaryTaken = s.boundaryTaken := by
  unfold loadRegs
  iterate 8 rw [loadIf_boundaryTaken _ _ _ (by intros; simp)]

theorem loadIf_stepReq (sel : Bool) (set : State → Word → State) (x : State × Word) (h : ∀ s v, (set s v).stepReq = s.stepReq) :
    (loadIf sel set x).1.stepReq = x.1.stepReq := by
  unfold loadIf; split <;> simp [h]
theorem loadIf_layout (sel : Bool) (set : State → Word → State) (x : State × Word) (h : ∀ s v, (set s v).layout = s.layout) :
    (loadIf sel set x).1.layout = x.1.layout := by
  unfold loadIf; split <;> simp [h]

@[simp] theorem loadRegs_stepReq (l : RegList) (s : State) (p : Word) : (loadRegs l s p).1.stepReq = s.stepReq := by
  unfold loadRegs
  iterate 8 rw [loadIf_stepReq _ _ _ (by intros; simp)]
@[simp] theorem loadRegs_layout (l : RegList) (s : State) (p : Word) : (loadRegs l s p).1.layout = s.layout := by
  unfold loadRegs
  iterate 8 rw [loadIf_layout _ _ _ (by intros; simp)]

theorem loadIf_resetReq (sel : Bool) (set : State → Word → State) (x : State × Word) (h : ∀ s v, (set s v).resetReq = s.resetReq) :
    (loadIf sel set x).1.resetReq = x.1.resetReq := by
  unfold loadIf; split <;> simp [h]

@[simp] theorem loadRegs_resetReq (l : RegList) (s : State) (p : Word) : (loadRegs l s p).1.resetReq = s.resetReq := by
  unfold loadRegs
  iterate 8 rw [loadIf_resetReq _ _ _ (by intros; simp)]

theorem loadIf_freeCount (sel : Bool) (set : State → Word → State) (x : State × Word) (h : ∀ s v, (set s v).freeCount = s.freeCount) :
    (loadIf sel set x).1.freeCount = x.1.freeCount := by
  unfold loadIf; split <;> simp [h]

@[simp] theorem loadRegs_freeCount (l : RegList) (s : State) (p : Word) : (loadRegs l s p).1.freeCount = s.freeCount := by
  unfold loadRegs
  iterate 8 rw [loadIf_freeCount _ _ _ (by intros; simp)]

@[simp] theorem storeIf_bank0 (sel : Bool) (get : State → Word) (x : State × Word) : (storeIf sel get x).1.bank0 = x.1.bank0 := by
  unfold storeIf; split <;> simp

@[simp] theorem storeRegs_bank0 (l : RegList) (s : State) (p : Word) : (storeRegs l s p).1.bank0 = s.bank0 := by
  simp [storeRegs]

@[simp] theorem storeIf_bank1 (sel : Bool) (get : State → Word) (x : State × Word) : (storeIf sel get x).1.bank1 = x.1.bank1 := by
  unfold storeIf; split <;> simp

@[simp] theorem storeRegs_bank1 (l : RegList) (s : State) (p : Word) : (storeRegs l s p).1.bank1 = s.bank1 := by
  simp [storeRegs]

@[simp] theorem storeIf_pc (sel : Bool) (get : State → Word) (x : State × Word) : (storeIf sel get x).1.pc = x.1.pc := by
  unfold storeIf; split <;> simp

@[simp] theorem storeRegs_pc (l : RegList) (s : State) (p : Word) : (storeRegs l s p).1.pc = s.pc := by
  simp [storeRegs]

@[simp] theorem storeIf_intb (sel : Bool) (get : State → Word) (x : State × Word) : (storeIf sel get x).1.intb = x.1.intb := by
  unfold storeIf; split <;> simp

@[simp] theorem storeRegs_intb (l : RegList) (s : State) (p : Word) : (storeRegs l s p).1.intb = s.intb := by
  simp [storeRegs]

@[simp] theorem storeIf_usp (sel : Bool) (get : State → Word) (x : State × Word) : (storeIf sel get x).1.usp = x.1.usp := by
  unfold storeIf; split <;> simp

@[simp] theorem storeRegs_usp (l : RegList) (s : State) (p : Word) : (storeRegs l s p).1.usp = s.usp := by
  simp [storeRegs]

@[simp] theorem storeIf_isp (sel : Bool) (get : State → Word) (x : State × Word) : (storeIf sel get x).1.isp = x.1.isp := by
  unfold storeIf; split <;> simp

@[simp] theorem storeRegs_isp (l : RegList) (s : State) (p : Word) : (storeRegs l s p).1.isp = s.isp := by
  simp [storeRegs]

@[simp] theorem storeIf_sb (sel : Bool) (get : State → Word) (x : State × Word) : (storeIf sel get x).1.sb = x.1.sb := by
  unfold storeIf; split <;> simp

@[simp] theorem storeRegs_sb (l : RegList) (s : State) (p : Word) : (storeRegs l s p).1.sb = s.sb := by
  simp [storeRegs]

@[simp] theorem storeIf_flg (sel : Bool) (get : State → Word) (x : State × Word) : (storeIf sel get x).1.flg = x.1.flg := by
  unfold storeIf; split <;> simp

@[simp] theorem storeRegs_flg (l : RegList) (s : State) (p : Word) : (storeRegs l s p).1.flg = s.flg := by
  simp [storeRegs]

@[simp] theorem storeIf_waiting (sel : Bool) (get : State → Word) (x : State × Word) : (storeIf sel get x).1.waiting = x.1.waiting := by
  unfold storeIf; split <;> simp

@[simp] theorem storeRegs_waiting (l : RegList) (s : State) (p : Word) : (storeRegs l s p).1.waiting = s.waiting := by
  simp [storeRegs]

@[simp] theorem storeIf_inhibitOnce (sel : Bool) (get : State → Word) (x : State × Word) : (storeIf sel get x).1.inhibitOnce = x.1.inhibitOnce := by
  unfold storeIf; split <;> simp

@[simp] theorem storeRegs_inhibitOnce (l : RegList) (s : State) (p : Word) : (storeRegs l s p).1.inhibitOnce = s.inhibitOnce := by
  simp [storeRegs]

@[simp] theorem storeIf_iAccept (sel : Bool) (get : State → Word) (x : State × Word) : (storeIf sel get x).1.iAccept = x.1.iAccept := by
  unfold storeIf; split <;> simp

@[simp] theorem storeRegs_iAccept (l : RegList) (s : State) (p : Word) : (storeRegs l s p).1.iAccept = s.iAccept := by
  simp [storeRegs]

@[simp] theorem storeIf_boundaryTaken (sel : Bool) (get : State → Word) (x : State × Word) : (storeIf sel get x).1.boundaryTaken = x.1.boundaryTaken := by
  unfold storeIf; split <;> simp

@[simp] theorem storeRegs_boundaryTaken (l : RegList) (s : State) (p : Word) : (storeRegs l s p).1.boundaryTaken = s.boundaryTaken := by
  simp [storeRegs]

@[simp] theorem storeIf_stepReq (sel : Bool) (get : State → Word) (x : State × Word) : (storeIf sel get x).1.stepReq = x.1.stepReq := by
  unfold storeIf; split <;> simp
@[simp] theorem storeIf_layout (sel : Bool) (get : State → Word) (x : State × Word) : (storeIf sel get x).1.layout = x.1.layout := by
  unfold storeIf; split <;> simp

@[simp] theorem storeRegs_stepReq (l : RegList) (s : State) (p : Word) : (storeRegs l s p).1.stepReq = s.stepReq := by
  simp [storeRegs]
@[simp] theorem storeRegs_layout (l : RegList) (s : State) (p : Word) : (storeRegs l s p).1.layout = s.layout := by
  simp [storeRegs]

@[simp] theorem storeIf_resetReq (sel : Bool) (get : State → Word) (x : State × Word) : (storeIf sel get x).1.resetReq = x.1.resetReq := by
  unfold storeIf; split <;> simp

@[simp] theorem storeRegs_resetReq (l : RegList) (s : State) (p : Word) : (storeRegs l s p).1.resetReq = s.resetReq := by
  simp [storeRegs]

@[simp] theorem storeIf_freeCount (sel : Bool) (get : State → Word) (x : State × Word) : (storeIf sel get x).1.freeCount = x.1.freeCount := by
  unfold storeIf; split <;> simp

@[simp] theorem storeRegs_freeCount (l : RegList) (s : State) (p : Word) : (storeRegs l s p).1.freeCount = s.freeCount := by
  simp [storeRegs]

@[simp] theorem readContext_snd_bank0 (s : State) (n : Word) (t : Addr) : ((readContext s n t).2).bank0 = s.bank0 := by
  simp [readContext]
@[simp] theorem readContext_snd_bank1 (s : State) (n : Word) (t : Addr) : ((readContext s n t).2).bank1 = s.bank1 := by
  simp [readContext]
@[simp] theorem readContext_snd_pc (s : State) (n : Word) (t : Addr) : ((readContext s n t).2).pc = s.pc := by
  simp [readContext]
@[simp] theorem readContext_snd_intb (s : State) (n : Word) (t : Addr) : ((readContext s n t).2).intb = s.intb := by
  simp [readContext]
@[simp] theorem readContext_snd_usp (s : State) (n : Word) (t : Addr) : ((readContext s n t).2).usp = s.usp := by
  simp [readContext]
@[simp] theorem readContext_snd_isp (s : State) (n : Word) (t : Addr) : ((readContext s n t).2).isp = s.isp := by
  simp [readContext]
@[simp] theorem readContext_snd_sb (s : State) (n : Word) (t : Addr) : ((readContext s n t).2).sb = s.sb := by
  simp [readContext]
@[simp] theorem readContext_snd_flg (s : State) (n : Word) (t : Addr) : ((readContext s n t).2).flg = s.flg := by
  simp [readContext]
@[simp] theorem readContext_snd_mem (s : State) (n : Word) (t : Addr) : ((readContext s n t).2).mem = s.mem := by
  simp [readContext]
@[simp] theorem readContext_snd_waiting (s : State) (n : Word) (t : Addr) : ((readContext s n t).2).waiting = s.waiting := by
  simp [readContext]
@[simp] theorem readContext_snd_inhibitOnce (s : State) (n : Word) (t : Addr) : ((readContext s n t).2).inhibitOnce = s.inhibitOnce := by
  simp [readContext]
@[simp] theorem readContext_snd_iAccept (s : State) (n : Word) (t : Addr) : ((readContext s n t).2).iAccept = s.iAccept := by
  simp [readContext]
@[simp] theorem readContext_snd_boundaryTaken (s : State) (n : Word) (t : Addr) : ((readContext s n t).2).boundaryTaken = s.boundaryTaken := by
  simp [readContext]
@[simp] theorem readContext_snd_stepReq (s : State) (n : Word) (t : Addr) : ((readContext s n t).2).stepReq = s.stepReq := by
  simp [readContext]
@[simp] theorem readContext_snd_layout (s : State) (n : Word) (t : Addr) : ((readContext s n t).2).layout = s.layout := by
  simp [readContext]
@[simp] theorem readContext_snd_resetReq (s : State) (n : Word) (t : Addr) : ((readContext s n t).2).resetReq = s.resetReq := by
  simp [readContext]
@[simp] theorem readContext_snd_freeCount (s : State) (n : Word) (t : Addr) : ((readContext s n t).2).freeCount = s.freeCount := by
  simp [readContext]

/-! ### The interrupt sequence -/

@[simp] theorem interruptSequence_bank0 (s : State) (vec ret : Addr) (clearU : Bool) (lvl : Option (BitVec 3)) : (interruptSequence s vec ret clearU lvl).bank0 = s.bank0 := by
  simp [interruptSequence]
@[simp] theorem interruptSequence_bank1 (s : State) (vec ret : Addr) (clearU : Bool) (lvl : Option (BitVec 3)) : (interruptSequence s vec ret clearU lvl).bank1 = s.bank1 := by
  simp [interruptSequence]
@[simp] theorem interruptSequence_intb (s : State) (vec ret : Addr) (clearU : Bool) (lvl : Option (BitVec 3)) : (interruptSequence s vec ret clearU lvl).intb = s.intb := by
  simp [interruptSequence]
@[simp] theorem interruptSequence_sb (s : State) (vec ret : Addr) (clearU : Bool) (lvl : Option (BitVec 3)) : (interruptSequence s vec ret clearU lvl).sb = s.sb := by
  simp [interruptSequence]
@[simp] theorem interruptSequence_waiting (s : State) (vec ret : Addr) (clearU : Bool) (lvl : Option (BitVec 3)) : (interruptSequence s vec ret clearU lvl).waiting = s.waiting := by
  simp [interruptSequence]
@[simp] theorem interruptSequence_inhibitOnce (s : State) (vec ret : Addr) (clearU : Bool) (lvl : Option (BitVec 3)) : (interruptSequence s vec ret clearU lvl).inhibitOnce = s.inhibitOnce := by
  simp [interruptSequence]
@[simp] theorem interruptSequence_boundaryTaken (s : State) (vec ret : Addr) (clearU : Bool) (lvl : Option (BitVec 3)) : (interruptSequence s vec ret clearU lvl).boundaryTaken = s.boundaryTaken := by
  simp [interruptSequence]
@[simp] theorem interruptSequence_stepReq (s : State) (vec ret : Addr) (clearU : Bool) (lvl : Option (BitVec 3)) : (interruptSequence s vec ret clearU lvl).stepReq = s.stepReq := by
  simp [interruptSequence]
@[simp] theorem interruptSequence_layout (s : State) (vec ret : Addr) (clearU : Bool) (lvl : Option (BitVec 3)) : (interruptSequence s vec ret clearU lvl).layout = s.layout := by
  simp [interruptSequence]
@[simp] theorem interruptSequence_resetReq (s : State) (vec ret : Addr) (clearU : Bool) (lvl : Option (BitVec 3)) : (interruptSequence s vec ret clearU lvl).resetReq = s.resetReq := by
  simp [interruptSequence]
@[simp] theorem interruptSequence_freeCount (s : State) (vec ret : Addr) (clearU : Bool) (lvl : Option (BitVec 3)) : (interruptSequence s vec ret clearU lvl).freeCount = s.freeCount := by
  simp [interruptSequence]

@[simp] theorem interruptSequence_iAccept (s : State) (vec ret : Addr) (clearU : Bool) (lvl : Option (BitVec 3)) :
    (interruptSequence s vec ret clearU lvl).iAccept = false := rfl

/-- FLG after the sequence: I and D clear, U clear if asked, IPL the new level if there is one, the rest as before (R620, R622). -/
theorem interruptSequence_flg (s : State) (vec ret : Addr) (clearU : Bool) (lvl : Option (BitVec 3)) :
    (interruptSequence s vec ret clearU lvl).flg =
      { s.flg with i := false, d := false, u := !clearU && s.flg.u, ipl := lvl.getD s.flg.ipl } := by
  simp [interruptSequence]

theorem interruptSequence_wf (s : State) (vec ret : Addr) (clearU : Bool) (lvl : Option (BitVec 3))
    (h : Memory.wf s.mem = true) : Memory.wf (interruptSequence s vec ret clearU lvl).mem = true := by
  simp only [interruptSequence, read32_snd, afterRead_mem, setFlg_mem]
  exact push16_wf _ _ (push16_wf _ _ (by simpa using h))

@[simp] theorem interruptReturn_bank0 (s : State) : (interruptReturn s).bank0 = s.bank0 := by
  simp [interruptReturn]
@[simp] theorem interruptReturn_bank1 (s : State) : (interruptReturn s).bank1 = s.bank1 := by
  simp [interruptReturn]
@[simp] theorem interruptReturn_intb (s : State) : (interruptReturn s).intb = s.intb := by
  simp [interruptReturn]
@[simp] theorem interruptReturn_sb (s : State) : (interruptReturn s).sb = s.sb := by
  simp [interruptReturn]
@[simp] theorem interruptReturn_mem (s : State) : (interruptReturn s).mem = s.mem := by
  simp [interruptReturn]
@[simp] theorem interruptReturn_waiting (s : State) : (interruptReturn s).waiting = s.waiting := by
  simp [interruptReturn]
@[simp] theorem interruptReturn_inhibitOnce (s : State) : (interruptReturn s).inhibitOnce = s.inhibitOnce := by
  simp [interruptReturn]
@[simp] theorem interruptReturn_boundaryTaken (s : State) : (interruptReturn s).boundaryTaken = s.boundaryTaken := by
  simp [interruptReturn]
@[simp] theorem interruptReturn_stepReq (s : State) : (interruptReturn s).stepReq = s.stepReq := by
  simp [interruptReturn]
@[simp] theorem interruptReturn_layout (s : State) : (interruptReturn s).layout = s.layout := by
  simp [interruptReturn]
@[simp] theorem interruptReturn_resetReq (s : State) : (interruptReturn s).resetReq = s.resetReq := by
  simp [interruptReturn]
@[simp] theorem interruptReturn_freeCount (s : State) : (interruptReturn s).freeCount = s.freeCount := by
  simp [interruptReturn]

/-- Taking a hardware interrupt ends a halt, closes the boundary, and leaves the general registers alone (R614, R620). -/
theorem accept_spec (s : State) (h : Hardware) :
    (s.accept h).waiting = false ∧ (s.accept h).boundaryTaken = true ∧ (s.accept h).iAccept = false ∧
    (s.accept h).bank0 = s.bank0 ∧ (s.accept h).bank1 = s.bank1 ∧ (s.accept h).sb = s.sb ∧ (s.accept h).intb = s.intb ∧
    (s.accept h).inhibitOnce = s.inhibitOnce := by
  cases h <;> simp [State.accept]

theorem accept_wf (s : State) (h : Hardware) (hm : Memory.wf s.mem = true) : Memory.wf (s.accept h).mem = true := by
  cases h <;> exact interruptSequence_wf _ _ _ _ _ hm

/-! ### Loading -/

/-- Placing bytes keeps the canonical form of memory. -/
theorem load_wf (s : State) (a : Addr) (l : List Byte) (h : Memory.wf s.mem = true) : Memory.wf (s.load a l).mem = true := by
  induction l generalizing s a with
  | nil => exact h
  | cons x t ih => exact ih _ _ (Memory.wf_set s.mem a x h)

end Sys2Proof.Machine
end

