-- ==== Sys2Proof/Laws/Frames.lean ====
section
/-! SUPPORT. What every shared operation leaves of memory: a byte outside the bytes it stores reads as before. The lemmas are named
`<operation>_peek`; `peek` reads one byte of the memory image, and the bytes stored are those of Safety.lean (`State.operandBytes`,
`wordBelow`, `returnBelow`, `frameBelow`, `wordsBelow`). -/

namespace Sys2Proof.Machine

theorem mem_bytesFrom_one (a b : Addr) : a ∈ bytesFrom b 1 ↔ a = b := by simp [bytesFrom, List.range_succ]

theorem mem_bytesFrom_two (a b : Addr) : a ∈ bytesFrom b 2 ↔ a = b ∨ a = b + 1 := by simp [bytesFrom, List.range_succ]

theorem mem_bytesFrom_three (a b : Addr) : a ∈ bytesFrom b 3 ↔ a = b ∨ a = b + 1 ∨ a = b + 2 := by simp [bytesFrom, List.range_succ]

theorem mem_bytesFrom_four (a b : Addr) : a ∈ bytesFrom b 4 ↔ a = b ∨ a = b + 1 ∨ a = b + 2 ∨ a = b + 3 := by simp [bytesFrom, List.range_succ]

@[simp] theorem afterRead_ea (s : State) (a : Addr) (m : Mem) : (s.afterRead a).ea m = s.ea m := by
  cases m <;> simp [State.ea, State.ea16, State.areg, State.fb]

@[simp] theorem readSrc8_ea (s : State) (x : Operand) (m : Mem) : (readSrc8 s x).2.ea m = s.ea m := by
  cases x <;> simp [readSrc8]

@[simp] theorem readSrc16_ea (s : State) (x : Operand) (m : Mem) : (readSrc16 s x).2.ea m = s.ea m := by
  cases x <;> simp [readSrc16]

@[simp] theorem readSrc8_peek (s : State) (x : Operand) (a : Addr) : (readSrc8 s x).2.peek a = s.peek a := by
  cases x <;> simp [readSrc8]

@[simp] theorem readSrc16_peek (s : State) (x : Operand) (a : Addr) : (readSrc16 s x).2.peek a = s.peek a := by
  cases x <;> simp [readSrc16]

@[simp] theorem peek_with_pc (s : State) (p a : Addr) : State.peek { s with pc := p } a = s.peek a := rfl

@[simp] theorem readByte_peek_state (s : State) (b : Addr) (a : Addr) : (readByte s b).2.peek a = s.peek a := by simp

@[simp] theorem peek_with_freeCount (s : State) (b : Addr) : State.peek { s with freeCount := s.freeCount + 1 } b = s.peek b := rfl

@[simp] theorem readSrc8_operandBytes (s : State) (n : Nat) (x y : Operand) : (readSrc8 s x).2.operandBytes n y = s.operandBytes n y := by
  cases y <;> simp [State.operandBytes]

@[simp] theorem readSrc16_operandBytes (s : State) (n : Nat) (x y : Operand) : (readSrc16 s x).2.operandBytes n y = s.operandBytes n y := by
  cases y <;> simp [State.operandBytes]

@[simp] theorem draw_operandBytes (s : State) (n : Nat) (y : Operand) : (draw s).2.operandBytes n y = s.operandBytes n y := by
  cases y with
  | mem m => cases m <;> rfl
  | _ => rfl

theorem update8_peek (op : Binary) (x : Byte) (dst : Operand) (s : State) (a : Addr) (h : a ∉ s.operandBytes 1 dst) :
    (update8 op x dst s).peek a = s.peek a := by
  cases dst with
  | mem m =>
    simp [State.operandBytes, mem_bytesFrom_one] at h
    simp [update8, writeByte_peek_ne _ _ _ _ h]
  | _ => simp [update8]

theorem update16_peek (op : Binary) (x : Word) (dst : Operand) (s : State) (a : Addr) (h : a ∉ s.operandBytes 2 dst) :
    (update16 op x dst s).peek a = s.peek a := by
  cases dst with
  | mem m =>
    simp [State.operandBytes, mem_bytesFrom_two] at h
    simp [update16, write16_peek_ne _ _ _ _ h.1 h.2]
  | _ => simp [update16]

theorem writeDest8_peek (x : Byte) (dst : Operand) (s : State) (a : Addr) (h : a ∉ s.operandBytes 1 dst) :
    (writeDest8 s dst x).peek a = s.peek a := by
  cases dst with
  | mem m =>
    simp [State.operandBytes, mem_bytesFrom_one] at h
    simp [writeDest8, writeByte_peek_ne _ _ _ _ h]
  | _ => simp [writeDest8]

theorem writeDest16_peek (x : Word) (dst : Operand) (s : State) (a : Addr) (h : a ∉ s.operandBytes 2 dst) :
    (writeDest16 s dst x).peek a = s.peek a := by
  cases dst with
  | mem m =>
    simp [State.operandBytes, mem_bytesFrom_two] at h
    simp [writeDest16, write16_peek_ne _ _ _ _ h.1 h.2]
  | _ => simp [writeDest16]

theorem move8_peek (x : Byte) (dst : Operand) (s : State) (a : Addr) (h : a ∉ s.operandBytes 1 dst) :
    (move8 x dst s).peek a = s.peek a := by
  cases dst with
  | mem m =>
    simp [State.operandBytes, mem_bytesFrom_one] at h
    simp [move8, writeByte_peek_ne _ _ _ _ h]
  | _ => simp [move8]

theorem move16_peek (x : Word) (dst : Operand) (s : State) (a : Addr) (h : a ∉ s.operandBytes 2 dst) :
    (move16 x dst s).peek a = s.peek a := by
  simp [move16, writeDest16_peek _ _ _ _ h]

theorem updateG_peek (op : Binary) (sz) (src dst : Operand) (s : State) (a : Addr) (h : a ∉ s.operandBytes (sizeBytes sz) dst) :
    (updateG op sz src dst s).peek a = s.peek a := by
  cases sz
  · simp only [updateG]; rw [update8_peek _ _ _ _ _ (by simpa [sizeBytes, Imm.size] using h)]; simp
  · simp only [updateG]; rw [update16_peek _ _ _ _ _ (by simpa [sizeBytes, Imm.size] using h)]; simp

theorem moveG_peek (sz) (src dst : Operand) (s : State) (a : Addr) (h : a ∉ s.operandBytes (sizeBytes sz) dst) :
    (moveG sz src dst s).peek a = s.peek a := by
  cases sz
  · simp only [moveG]; rw [move8_peek _ _ _ _ (by simpa [sizeBytes, Imm.size] using h)]; simp
  · simp only [moveG]; rw [move16_peek _ _ _ _ (by simpa [sizeBytes, Imm.size] using h)]; simp

theorem updateImm_peek (op : Binary) (v : Imm) (dst : Operand) (s : State) (a : Addr) (h : a ∉ s.operandBytes (sizeBytes v.size) dst) :
    (updateImm op v dst s).peek a = s.peek a := by
  cases v
  · simp only [updateImm]; rw [update8_peek _ _ _ _ _ (by simpa [sizeBytes, Imm.size] using h)]
  · simp only [updateImm]; rw [update16_peek _ _ _ _ _ (by simpa [sizeBytes, Imm.size] using h)]

theorem updateQ_peek (op : Binary) (sz v) (dst : Operand) (s : State) (a : Addr) (h : a ∉ s.operandBytes (sizeBytes sz) dst) :
    (updateQ op sz v dst s).peek a = s.peek a := by
  cases sz
  · simp only [updateQ]; rw [update8_peek _ _ _ _ _ (by simpa [sizeBytes, Imm.size] using h)]
  · simp only [updateQ]; rw [update16_peek _ _ _ _ _ (by simpa [sizeBytes, Imm.size] using h)]

theorem updateOne_peek (op : Binary) (sz) (dst : Operand) (s : State) (a : Addr) (h : a ∉ s.operandBytes (sizeBytes sz) dst) :
    (updateOne op sz dst s).peek a = s.peek a := by
  cases sz
  · simp only [updateOne]; rw [update8_peek _ _ _ _ _ (by simpa [sizeBytes, Imm.size] using h)]
  · simp only [updateOne]; rw [update16_peek _ _ _ _ _ (by simpa [sizeBytes, Imm.size] using h)]

@[simp] theorem compare8_peek (op : Compare) (x) (dst : Operand) (s : State) (a : Addr) : (compare8 op x dst s).peek a = s.peek a := by
  cases dst <;> simp [compare8]

@[simp] theorem compare16_peek (op : Compare) (x) (dst : Operand) (s : State) (a : Addr) : (compare16 op x dst s).peek a = s.peek a := by
  cases dst <;> simp [compare16]

@[simp] theorem afterRead_areg (s : State) (a r) : (s.afterRead a).areg r = s.areg r := by simp [State.areg]

theorem updateBit_peek (f : Bool → Bool) (p : BitPlace) (s : State) (a : Addr) (h : a ∉ p.bytes) : (updateBit f p s).peek a = s.peek a := by
  cases p with
  | mem b k => simp [BitPlace.bytes] at h; simp [updateBit, writeByte_peek_ne _ _ _ _ h]
  | _ => simp [updateBit]

@[simp] theorem readBit_peek (p : BitPlace) (s : State) (a : Addr) : (readBit s p).2.peek a = s.peek a := by
  cases p <;> simp [readBit]

theorem push16_peek_outside (s : State) (v : Word) (a : Addr) (h : a ∉ wordBelow s.sp) : (push16 s v).peek a = s.peek a := by
  simp [wordBelow, mem_bytesFrom_two] at h; exact push16_peek_ne _ _ _ h.1 h.2

@[simp] theorem readSrc8_sp (s : State) (x) : (readSrc8 s x).2.sp = s.sp := by simp [State.sp]

@[simp] theorem readSrc16_sp (s : State) (x) : (readSrc16 s x).2.sp = s.sp := by simp [State.sp]

@[simp] theorem readContext_sp (s : State) (x t) : (readContext s x t).2.sp = s.sp := by simp [State.sp]

@[simp] theorem setFb_sp_selected (s : State) (x) : (s.setFb x).sp = s.sp := by simp [State.sp]

theorem pushRet_peek_outside (s : State) (v : Addr) (a : Addr) (h : a ∉ returnBelow s.sp) : (pushRet s v).peek a = s.peek a := by
  have e : s.sp - 1 - 2 = s.sp - 3 := by bv_omega
  simp only [returnBelow, List.mem_cons, mem_bytesFrom_two, not_or] at h
  rw [pushRet, push16_peek_outside, push8_peek_ne _ _ _ h.1]
  simp only [wordBelow, mem_bytesFrom_two, push8_sp, not_or]; rw [e]; exact h.2

theorem interruptSequence_peek (s : State) (vec ret : Addr) (c : Bool) (l) (a : Addr) (h : a ∉ frameBelow (if c then s.isp else s.sp)) :
    (interruptSequence s vec ret c l).peek a = s.peek a := by
  have e : s.isp - 4 = s.isp - 2 - 2 := by bv_omega
  have e2 : s.usp - 4 = s.usp - 2 - 2 := by bv_omega
  simp only [frameBelow, List.mem_append, not_or] at h
  have q : (interruptSequence s vec ret c l).mem = (push16 (push16 (s.setFlg { s.flg with i := false, d := false, u := !c && s.flg.u })
      (frameHigh s.flg ret)) (ret.extractLsb' 0 16)).mem := by
    simp [interruptSequence]
  have q2 : ∀ t u : State, t.mem = u.mem → t.peek a = u.peek a := by intro t u h; simp [State.peek, h]
  rw [q2 _ _ q]
  cases c
  · rw [push16_peek_outside, push16_peek_outside]
    · simp
    · simp [State.sp] at h ⊢; exact h.1
    · rw [push16_sp]; simp [State.sp] at h ⊢; exact h.2
  · rw [push16_peek_outside, push16_peek_outside]
    · simp
    · simp [State.sp] at h ⊢; exact h.1
    · rw [push16_sp]; simp [State.sp] at h ⊢; exact h.2

theorem loadRegs_peek (l s p) (a : Addr) : (loadRegs l s p).1.peek a = s.peek a := by simp [State.peek, loadRegs_mem]

@[simp] theorem readContext_peek (s : State) (x t) (a : Addr) : (readContext s x t).2.peek a = s.peek a := by simp [State.peek]

theorem storeIf_peek (b g x) (a : Addr) (k : Nat) (h : a ∉ wordsBelow x.2 (b.toNat + k)) :
   (storeIf b g x).1.peek a = x.1.peek a ∧ a ∉ wordsBelow (storeIf b g x).2 k := by
  cases b
  · simp [storeIf] at h ⊢; exact h
  · have : (true.toNat + k) = k + 1 := by simp; omega
    rw [this] at h
    simp [wordsBelow, wordBelow, mem_bytesFrom_two] at h
    simp [storeIf, write16_peek_ne _ _ _ _ h.1.1 h.1.2, h.2]

theorem storeRegs_peek (l : RegList) (s p) (a : Addr) (h : a ∉ wordsBelow p (RegList.count l)) : (storeRegs l s p).1.peek a = s.peek a := by
  have e : RegList.count l = l.fb.toNat + (l.sb.toNat + (l.a1.toNat + (l.a0.toNat + (l.r3.toNat + (l.r2.toNat + (l.r1.toNat + (l.r0.toNat + 0))))))) := by
    simp [RegList.count]; omega
  rw [e] at h
  obtain ⟨h1, h⟩ := storeIf_peek l.fb State.fb (s, p) a _ h
  obtain ⟨h2, h⟩ := storeIf_peek l.sb (fun s => s.sb) _ a _ h
  obtain ⟨h3, h⟩ := storeIf_peek l.a1 (fun s => s.areg .a1) _ a _ h
  obtain ⟨h4, h⟩ := storeIf_peek l.a0 (fun s => s.areg .a0) _ a _ h
  obtain ⟨h5, h⟩ := storeIf_peek l.r3 (fun s => s.word .r1hR3) _ a _ h
  obtain ⟨h6, h⟩ := storeIf_peek l.r2 (fun s => s.word .r1lR2) _ a _ h
  obtain ⟨h7, h⟩ := storeIf_peek l.r1 (fun s => s.word .r0hR1) _ a _ h
  obtain ⟨h8, h⟩ := storeIf_peek l.r0 (fun s => s.word .r0lR0) _ a _ h
  simp only [storeRegs]
  rw [h8, h7, h6, h5, h4, h3, h2, h1]

@[simp] theorem compareG_peek (op : Compare) (sz) (x) (dst : Operand) (s : State) (a : Addr) : (compareG op sz x dst s).peek a = s.peek a := by
  cases sz <;> simp [compareG]

@[simp] theorem compareImm_peek (op : Compare) (x) (dst : Operand) (s : State) (a : Addr) : (compareImm op x dst s).peek a = s.peek a := by
  cases x <;> simp [compareImm]

@[simp] theorem compareQ_peek (op : Compare) (sz) (x) (dst : Operand) (s : State) (a : Addr) : (compareQ op sz x dst s).peek a = s.peek a := by
  cases sz <;> simp [compareQ]

theorem shiftR1H_peek (k sz) (dst : Operand) (s : State) (a : Addr) (h : a ∉ if s.byte .r1hR3 = 0 then [] else s.operandBytes (sizeBytes sz) dst) :
    (shiftR1H k sz dst s).peek a = s.peek a := by
  have e : ((s.byte .r1hR3).toInt = 0) = (s.byte .r1hR3 = 0) := by
    rw [← BitVec.toInt_inj]; simp
  simp only [shiftR1H]
  simp only [e]
  split at h
  · simp [*]
  · simp only [*, if_false]
    split
    · exact updateOne_peek _ _ _ _ _ h
    · rw [updateOne_peek _ _ _ _ _ (by simpa using h)]; simp

@[simp] theorem pop8_peek (s : State) (a : Addr) : (pop8 s).2.peek a = s.peek a := by simp [State.peek]

@[simp] theorem pop16_peek (s : State) (a : Addr) : (pop16 s).2.peek a = s.peek a := by simp [State.peek]

@[simp] theorem popRet_peek (s : State) (a : Addr) : (popRet s).2.peek a = s.peek a := by simp [State.peek]

@[simp] theorem divide8_peek (k x) (s : State) (a : Addr) : (divide8 k x s).peek a = s.peek a := by
  simp only [divide8]; split <;> simp

@[simp] theorem divide16_peek (k x) (s : State) (a : Addr) : (divide16 k x s).peek a = s.peek a := by
  simp only [divide16]; split <;> simp

@[simp] theorem divideG_peek (k sz x) (s : State) (a : Addr) : (divideG k sz x s).peek a = s.peek a := by
  cases sz <;> simp [divideG]

@[simp] theorem divideImm_peek (k x) (s : State) (a : Addr) : (divideImm k x s).peek a = s.peek a := by
  cases x <;> simp [divideImm]

@[simp] theorem decimal8_peek (o c x) (s : State) (a : Addr) : (decimal8 o c x s).peek a = s.peek a := by
  simp only [decimal8]; split <;> simp

@[simp] theorem decimal16_peek (o c x) (s : State) (a : Addr) : (decimal16 o c x s).peek a = s.peek a := by
  simp only [decimal16]; split <;> simp

@[simp] theorem decimalReg_peek (o c x) (s : State) (a : Addr) : (decimalReg o c x s).peek a = s.peek a := by
  cases x <;> simp [decimalReg]

@[simp] theorem decimalImm_peek (o c x) (s : State) (a : Addr) : (decimalImm o c x s).peek a = s.peek a := by
  cases x <;> simp [decimalImm]

theorem writeByte_ea (s : State) (b v m) : (writeByte s b v).ea m = s.ea m := by
  cases m <;> simp [State.ea, State.ea16, State.areg, State.fb]

theorem multiply8_peek (g x dst) (s : State) (a : Addr) (h : a ∉ s.operandBytes 2 dst) : (multiply8 g x dst s).peek a = s.peek a := by
  cases dst with
  | mem m => simp [State.operandBytes, mem_bytesFrom_two] at h; simp [multiply8, write16_peek_ne _ _ _ _ h.1 h.2]
  | dreg r => cases r <;> simp [multiply8]
  | areg r => simp [multiply8]

theorem write32_peek_outside (s : State) (b v) (a : Addr) (h : a ∉ bytesFrom b 4) : (write32 s b v).peek a = s.peek a := by
  have e : b + 3 = b + 2 + 1 := by bv_omega
  simp only [mem_bytesFrom_four, not_or] at h
  rw [e] at h
  rw [write32, write16_peek_ne _ _ _ _ h.2.2.1 h.2.2.2, write16_peek_ne _ _ _ _ h.1 h.2.1]

theorem multiply16_peek (g x dst) (s : State) (a : Addr) (h : a ∉ s.operandBytes 4 dst) : (multiply16 g x dst s).peek a = s.peek a := by
  cases dst with
  | mem m => simp [State.operandBytes] at h; simp [multiply16, write32_peek_outside _ _ _ _ h]
  | dreg r => cases r <;> simp [multiply16]
  | areg r => cases r <;> simp [multiply16]

theorem multiplyG_peek (g sz src dst) (s : State) (a : Addr) (h : a ∉ s.operandBytes (2 * sizeBytes sz) dst) : (multiplyG g sz src dst s).peek a = s.peek a := by
  cases sz
  · simp only [multiplyG]; rw [multiply8_peek _ _ _ _ _ (by simpa [sizeBytes] using h)]; simp
  · simp only [multiplyG]; rw [multiply16_peek _ _ _ _ _ (by simpa [sizeBytes] using h)]; simp

theorem multiplyImm_peek (g v dst) (s : State) (a : Addr) (h : a ∉ s.operandBytes (2 * sizeBytes (Imm.size v)) dst) : (multiplyImm g v dst s).peek a = s.peek a := by
  cases v
  · simp only [multiplyImm]; rw [multiply8_peek _ _ _ _ _ (by simpa [sizeBytes, Imm.size] using h)]
  · simp only [multiplyImm]; rw [multiply16_peek _ _ _ _ _ (by simpa [sizeBytes, Imm.size] using h)]

theorem extendByte_peek (dst) (s : State) (a : Addr) (h : a ∉ s.operandBytes 2 dst) : (extendByte dst s).peek a = s.peek a := by
  cases dst with
  | mem m => simp [State.operandBytes, mem_bytesFrom_two] at h; simp [extendByte, write16_peek_ne _ _ _ _ h.1 h.2]
  | dreg r => cases r <;> simp [extendByte]
  | areg r => simp [extendByte]

theorem moveImm_peek (v : Imm) (dst : Operand) (s : State) (a : Addr) (h : a ∉ s.operandBytes (sizeBytes v.size) dst) :
    (moveImm v dst s).peek a = s.peek a := by
  cases v
  · simp only [moveImm]; rw [move8_peek _ _ _ _ (by simpa [sizeBytes, Imm.size] using h)]
  · simp only [moveImm]; rw [move16_peek _ _ _ _ (by simpa [sizeBytes, Imm.size] using h)]

theorem afterRead_operandBytes (s : State) (b n dst) : (s.afterRead b).operandBytes n dst = s.operandBytes n dst := by
  cases dst <;> simp [State.operandBytes]

theorem moveFrom_peek (sz b) (dst : Operand) (s : State) (a : Addr) (h : a ∉ s.operandBytes (sizeBytes sz) dst) :
    (moveFrom sz b dst s).peek a = s.peek a := by
  cases sz
  · simp only [moveFrom]; rw [move8_peek _ _ _ _ (by simpa [sizeBytes, afterRead_operandBytes] using h)]; simp
  · simp only [moveFrom]; rw [move16_peek _ _ _ _ (by simpa [sizeBytes, afterRead_operandBytes] using h)]; simp

theorem writeByte_peek_outside (s : State) (b v) (a : Addr) (h : a ∉ bytesFrom b (sizeBytes .b)) : (writeByte s b v).peek a = s.peek a := by
  simp [sizeBytes, mem_bytesFrom_one] at h; exact writeByte_peek_ne _ _ _ _ h

theorem write16_peek_outside (s : State) (b v) (a : Addr) (h : a ∉ bytesFrom b (sizeBytes .w)) : (write16 s b v).peek a = s.peek a := by
  simp [sizeBytes, mem_bytesFrom_two] at h; exact write16_peek_ne _ _ _ _ h.1 h.2

theorem moveToSp_peek (sz src d) (s : State) (a : Addr) (h : a ∉ bytesFrom (s.eaSp d) (sizeBytes sz)) : (moveToSp sz src d s).peek a = s.peek a := by
  cases sz
  · simp only [moveToSp, setFlg_peek]; rw [writeByte_peek_outside _ _ _ _ h]; simp
  · simp only [moveToSp, setFlg_peek]; rw [write16_peek_outside _ _ _ _ h]; simp

theorem storeExtended_peek (sz src d) (s : State) (a : Addr) (h : a ∉ bytesFrom d (sizeBytes sz)) : (storeExtended sz src d s).peek a = s.peek a := by
  cases sz
  · simp only [storeExtended, setFlg_peek]; rw [writeByte_peek_outside _ _ _ _ h]; simp
  · simp only [storeExtended, setFlg_peek]; rw [write16_peek_outside _ _ _ _ h]; simp

theorem pushOperand_peek (sz src) (s : State) (a : Addr) (h : a ∉ bytesFrom (zext20 (s.sp - BitVec.ofNat 16 (sizeBytes sz))) (sizeBytes sz)) :
    (pushOperand sz src s).peek a = s.peek a := by
  cases sz
  · simp only [pushOperand, push8, readSrc8_sp]; exact (writeByte_peek_outside _ (zext20 (s.sp - 1)) _ a h).trans (by simp)
  · simp only [pushOperand, push16, readSrc16_sp]; exact (write16_peek_outside _ (zext20 (s.sp - 2)) _ a h).trans (by simp)

theorem pop8_operandBytes (s : State) (n dst) : (pop8 s).2.operandBytes n dst = s.operandBytes n dst := by
  have : ∀ m, (pop8 s).2.ea m = s.ea m := by intro m; cases m <;> simp [State.ea, State.ea16, State.areg, State.fb, State.bank]
  cases dst <;> simp [State.operandBytes, this]

theorem pop16_operandBytes (s : State) (n dst) : (pop16 s).2.operandBytes n dst = s.operandBytes n dst := by
  have : ∀ m, (pop16 s).2.ea m = s.ea m := by intro m; cases m <;> simp [State.ea, State.ea16, State.areg, State.fb, State.bank]
  cases dst <;> simp [State.operandBytes, this]

theorem popOperand_peek (sz dst) (s : State) (a : Addr) (h : a ∉ s.operandBytes (sizeBytes sz) dst) : (popOperand sz dst s).peek a = s.peek a := by
  cases sz
  · simp only [popOperand]; rw [writeDest8_peek _ _ _ _ (by simpa [pop8_operandBytes, sizeBytes] using h)]; simp
  · simp only [popOperand]; rw [writeDest16_peek _ _ _ _ (by simpa [pop16_operandBytes, sizeBytes] using h)]; simp

theorem exchange_peek (sz r dst) (s : State) (a : Addr) (h : a ∉ s.operandBytes (sizeBytes sz) dst) : (exchange sz r dst s).peek a = s.peek a := by
  cases sz
  · simp only [exchange, setByte_peek]; rw [writeDest8_peek _ _ _ _ (by simpa [sizeBytes] using h)]; simp
  · simp only [exchange, setWord_peek]; rw [writeDest16_peek _ _ _ _ (by simpa [sizeBytes] using h)]; simp

@[simp] theorem addToSp_peek (v) (s : State) (a : Addr) : (addToSp v s).peek a = s.peek a := by simp [addToSp]

theorem copyElement_peek (sz) (s : State) (a : Addr) (h : a ∉ bytesFrom (zext20 (s.areg .a1)) (sizeBytes sz)) : (copyElement sz s).peek a = s.peek a := by
  cases sz
  · simp only [copyElement]; rw [writeByte_peek_outside _ _ _ _ h]; simp
  · simp only [copyElement]; rw [write16_peek_outside _ _ _ _ h]; simp

@[simp] theorem setCreg_peek (s : State) (c v) (a : Addr) : (s.setCreg c v).peek a = s.peek a := by cases c <;> simp [State.setCreg, State.peek]

end Sys2Proof.Machine
end

