-- ==== Sys2Proof/Tests/Slice0.lean ====
section
/-! SUPPORT. The model's own tests: ill-formed terms, codes written out from the encodings of 30_encoding.md and the instruction rules, single
steps against the vectors of 95_test_vectors.md (Part B, named by their number) and the worked examples of the rules, and for every
obligation with hypotheses a state and operands that meet them. -/

namespace Sys2Proof.Tests

set_option Elab.async false

open Sys2Proof.Machine

/-! ### Terms that are no instruction, one for each check of WellFormed.lean -/

/-- An ill-formed term is refused by the check and does not run. -/
def refused (i : Instr) : Bool :=
  !i.wellFormed &&
  match exec i State.reset with
  | .refused .notSelectable => true
  | _ => false

theorem test_refuses_both_operands_address_registers : refused (.addG .b (.areg .a0) (.areg .a1)) = true := by decide +kernel
theorem test_refuses_one_operand_byte_address_register : refused (.neg .b (.areg .a0)) = true := by decide +kernel
theorem test_refuses_byte_shift_of_r1h_by_r1h : refused (.shlR1H .b (.dreg .r1hR3)) = true := by decide +kernel
theorem test_refuses_word_shift_of_r1_by_r1h : refused (.shaR1H .w (.dreg .r0hR1)) = true := by decide +kernel
theorem test_refuses_product_to_r0h : refused (.mulImm (.b 1) (.dreg .r0hR1)) = true := by decide +kernel
theorem test_refuses_product_to_a1 : refused (.muluG .w (.dreg .r0lR0) (.areg .a1)) = true := by decide +kernel
theorem test_refuses_extension_of_r0h : refused (.extsB (.dreg .r0hR1)) = true := by decide +kernel
theorem test_refuses_address_of_plain_indirect : refused (.mova (.ind .a0) (.areg .a0)) = true := by decide +kernel
theorem test_refuses_push_of_plain_indirect_address : refused (.pusha (.ind .a1)) = true := by decide +kernel
theorem test_refuses_dsp16_in_indirect_jump : refused (.jmpiA (.mem (.mem (.dsp16A .a0 1)))) = true := by decide +kernel
theorem test_refuses_dsp16_in_indirect_call : refused (.jsriW (.mem (.mem (.dsp16A .a1 1)))) = true := by decide +kernel
theorem test_refuses_long_condition_in_short_jump : refused (.jcndShort .lt 0) = true := by decide +kernel
theorem test_refuses_short_condition_in_long_jump : refused (.jcndLong .eq 0) = true := by decide +kernel
theorem test_refuses_special_page_17 : refused (.jsrs 17) = true := by decide +kernel
theorem test_refuses_nibble_to_own_register : refused (.movDirFromR0L .hh (.dreg .r0lR0)) = true := by decide +kernel
theorem test_refuses_nibble_of_address_register : refused (.movDirToR0L .ll (.areg .a0)) = true := by decide +kernel

/-! ### Codes -/

/-- The decoder reads exactly this instruction from these bytes, and the encoder writes them. -/
def reads (bs : List Byte) (i : Instr) : Bool := decode bs == .ok (i, []) && encode i == bs

/-- The decoder refuses these bytes. -/
def refuses (bs : List Byte) : Bool :=
  match decode bs with
  | .ok _ => false
  | .error _ => true

/-- MOV, MOVA, MOVDir: SE91 to SE95, SE174, TV3, TV9 to TV19; MOV.B:S and MOV.W:S from R209 and R211. -/
theorem test_decode_mov :
    (reads [0x75, 0xC2, 0xFF, 0xFF] (.movGImm (.w 0xFFFF) (.dreg .r1lR2)) &&
      reads [0xD8, 0xF4] (.movQ .b 0xF (.areg .a0)) &&
      reads [0x73, 0xF1, 0x00, 0x40] (.movG .w (.mem (.abs16 0x4000)) (.dreg .r0hR1)) &&
      reads [0x75, 0xB0, 0x02] (.movFromSp .w 2 (.dreg .r0lR0)) &&
      reads [0x74, 0x30, 0xFF] (.movToSp .b (.dreg .r0lR0) 0xFF) &&
      reads [0x02, 0x12] (.movSHalfDest .r0l (.dsp8FB 0x12)) &&
      reads [0x08] (.movSSrcHalf .r0l .half) &&
      reads [0x34] (.movSSrcA .a1 .half) &&
      reads [0xA2, 0x00, 0x80] (.movWSImmA .a0 0x8000) &&
      reads [0xEA, 0x7F] (.movBSImmA .a1 0x7F) &&
      reads [0xB7, 0x00, 0x04] (.movZ (.mem (.abs16 0x400))) &&
      reads [0xC4, 0xAB] (.movSImm 0xAB (.half .r0l)) &&
      reads [0xEB, 0x0B, 0xFF] (.mova (.dsp8FB 0xFF) (.dreg .r0lR0)) &&
      reads [0x7C, 0x2F, 0x00, 0x04] (.movDirToR0L .lh (.mem (.abs16 0x400))) &&
      reads [0x7C, 0xB6] (.movDirFromR0L .hh (.mem (.ind .a0)))) = true := by decide +kernel

/-- SE112 to SE123, TV20 to TV28. -/
theorem test_decode_stack :
    (reads [0x74, 0xD0] (.popG .b (.dreg .r0lR0)) &&
      reads [0x9A] (.popBS .r0h) &&
      reads [0xD2] (.popWS .a0) &&
      reads [0xED, 0xD3] (.popm ⟨true, true, false, false, true, false, true, true⟩) &&
      reads [0xEC, 0xCB] (.pushm ⟨true, true, false, false, true, false, true, true⟩) &&
      reads [0x75, 0x44] (.pushG .w (.areg .a0)) &&
      reads [0x7D, 0xE2, 0x00, 0x01] (.pushImm (.w 0x100)) &&
      reads [0x82] (.pushBS .r0l) &&
      reads [0xCA] (.pushWS .a1) &&
      reads [0x7D, 0x9E, 0x34, 0x12] (.pusha (.dsp16SB 0x1234)) &&
      reads [0xEB, 0x62] (.pushc .sb) &&
      reads [0xEB, 0x63] (.popc .sb)) = true := by decide +kernel

/-- SE87, SE88, SE148 to SE152, SE163, TV29 to TV38. -/
theorem test_decode_far_and_conditional_transfer :
    (reads [0x74, 0x84, 0x34, 0x12, 0x0F] (.ldeAbs20 .b 0xF1234 (.areg .a0)) &&
      reads [0x75, 0x90, 0xFF, 0xFF, 0x0F] (.ldeDsp20 .w 0xFFFFF (.dreg .r0lR0)) &&
      reads [0x75, 0xA0] (.ldeA1A0 .w (.dreg .r0lR0)) &&
      reads [0x75, 0x00, 0x34, 0x12, 0x0F] (.steAbs20 .w (.dreg .r0lR0) 0xF1234) &&
      reads [0x75, 0x10, 0x00, 0x00, 0x01] (.steDsp20 .w (.dreg .r0lR0) 0x10000) &&
      reads [0x74, 0x20] (.steA1A0 .b (.dreg .r0lR0)) &&
      reads [0xD5, 0x05, 0x10] (.stnz 5 (.mem (.dsp8SB 0x10))) &&
      reads [0xCD, 0x05, 0x10] (.stz 5 (.mem (.dsp8SB 0x10))) &&
      reads [0xDD, 0x01, 0x10, 0x02] (.stzx 1 2 (.mem (.dsp8SB 0x10))) &&
      reads [0x7B, 0x05] (.xchg .w .r0lR0 (.areg .a1))) = true := by decide +kernel

/-- SE19 to SE39, SE170, TV50 to TV65; BCLR:S and BNOT:S from R263 and R269. -/
theorem test_decode_bits :
    (reads [0x7E, 0x4F, 0x04, 0x20] (.band (.base16 0x2004)) &&
      reads [0x7E, 0x8A, 0x84] (.bclrG (.base8SB 0x84)) &&
      reads [0x7E, 0x2A, 0x83, 0x02] (.bmcnd .eq (.base8SB 0x83)) &&
      reads [0x7D, 0xD2] (.bmcndC .eq) &&
      reads [0x7E, 0x56] (.bnand (.ind .a0)) &&
      reads [0x7E, 0x7E, 0x10, 0x80] (.bnor (.base16SB 0x8010)) &&
      reads [0x7E, 0xA8, 0x10] (.bnotG (.base8A .a0 0x10)) &&
      reads [0x7E, 0x3D, 0x34, 0x12] (.bntst (.base16A .a1 0x1234)) &&
      reads [0x7E, 0xD0, 0x0F] (.bnxor (.dreg .r0lR0 15)) &&
      reads [0x7E, 0x65, 0x01] (.bor (.areg .a1 1)) &&
      reads [0x7E, 0x9F, 0x52, 0x00] (.bsetG (.base16 0x52)) &&
      reads [0x7E, 0xBB, 0xFB] (.btstG (.base8FB 0xFB)) &&
      reads [0x7E, 0x00, 0x07] (.btstc (.dreg .r0lR0 7)) &&
      reads [0x7E, 0x1F, 0x00, 0x20] (.btsts (.base16 0x2000)) &&
      reads [0x7E, 0xC6] (.bxor (.ind .a0)) &&
      reads [0x4F, 0xFF] (.bsetS 7 0xFF) &&
      reads [0x58, 0x00] (.btstS 0 0) &&
      reads [0x43, 0x10] (.bclrS 3 0x10) &&
      reads [0x51, 0x22] (.bnotS 1 0x22)) = true := by decide +kernel

/-- SE126 to SE142, TV93 to TV103. -/
theorem test_decode_shifts :
    (reads [0x76, 0xA0] (.rolc .b (.dreg .r0lR0)) &&
      reads [0x77, 0xB0] (.rorc .w (.dreg .r0lR0)) &&
      reads [0xE0, 0x80] (.rotImm .b ⟨true, 0⟩ (.dreg .r0lR0)) &&
      reads [0x75, 0x62] (.rotR1H .w (.dreg .r1lR2)) &&
      reads [0xF0, 0xA0] (.shaImm .b ⟨true, 2⟩ (.dreg .r0lR0)) &&
      reads [0x75, 0xF0] (.shaR1H .w (.dreg .r0lR0)) &&
      reads [0xEB, 0xBF] (.shaLImm .r3r1 ⟨true, 7⟩) &&
      reads [0xEB, 0x21] (.shaLR1H .r2r0) &&
      reads [0xE8, 0x20] (.shlImm .b ⟨false, 2⟩ (.dreg .r0lR0)) &&
      reads [0x74, 0xE0] (.shlR1H .b (.dreg .r0lR0)) &&
      reads [0xEB, 0x83] (.shlLImm .r2r0 ⟨false, 3⟩) &&
      reads [0xEB, 0x11] (.shlLR1H .r3r1)) = true := by decide +kernel

/-- SE3 to SE12, SE104, SE132 to SE135, SE155, SE156, TV116, TV137, TV138. -/
theorem test_decode_addition_and_subtraction :
    (reads [0x76, 0x60, 0x02] (.adcImm (.b 2) (.dreg .r0lR0)) &&
      reads [0xB0, 0x04] (.adcG .b (.dreg .r0lR0) (.areg .a0)) &&
      reads [0x77, 0xEC, 0x34, 0x12] (.adcf .w (.mem (.dsp16A .a0 0x1234))) &&
      reads [0x77, 0x46, 0x02, 0x00] (.addImm (.w 2) (.mem (.ind .a0))) &&
      reads [0xC9, 0x26] (.addQ .w 2 (.mem (.ind .a0))) &&
      reads [0x84, 0x05] (.addSImm 5 (.half .r0l)) &&
      reads [0xA0, 0xA0, 0x10] (.addG .b (.mem (.dsp8SB 0x10)) (.dreg .r0lR0)) &&
      reads [0x21, 0x10] (.addSSrcHalf .r0l (.mem (.dsp8SB 0x10))) &&
      reads [0x7C, 0xEB, 0x80] (.addImmSp (.b 0x80)) &&
      reads [0x7D, 0xB8] (.addQSp 8) &&
      reads [0x77, 0x56, 0x02, 0x00] (.subImm (.w 2) (.mem (.ind .a0))) &&
      reads [0x8C, 0x05] (.subSImm 5 (.half .r0l)) &&
      reads [0xA8, 0xA0, 0x10] (.subG .b (.mem (.dsp8SB 0x10)) (.dreg .r0lR0)) &&
      reads [0x29, 0x10] (.subSSrcHalf .r0l (.mem (.dsp8SB 0x10))) &&
      reads [0x76, 0x70, 0x02] (.sbbImm (.b 2) (.dreg .r0lR0)) &&
      reads [0xB9, 0x40] (.sbbG .w (.areg .a0) (.dreg .r0lR0)) &&
      reads [0x75, 0x55] (.neg .w (.areg .a1))) = true := by decide +kernel

/-- SE2, SE40 to SE50, SE60 to SE63, TV132 to TV136, TV155, TV156; CMP.B:S from R346. -/
theorem test_decode_other_arithmetic :
    (reads [0x77, 0x80, 0xFD, 0xFF] (.cmpImm (.w 0xFFFD) (.dreg .r0lR0)) &&
      reads [0xD1, 0xD0] (.cmpQ .w 0xD (.dreg .r0lR0)) &&
      reads [0xE6, 0x05, 0x10] (.cmpSImm 5 (.mem (.dsp8FB 0x10))) &&
      reads [0xC1, 0x04] (.cmpG .w (.dreg .r0lR0) (.areg .a0)) &&
      reads [0x3C] (.cmpSSrcHalf .r0h .half) &&
      reads [0x77, 0xF4] (.abs .w (.areg .a0)) &&
      reads [0xA4] (.incB (.half .r0l)) &&
      reads [0xBA] (.incW .a1) &&
      reads [0xAF, 0x00, 0x04] (.decB (.mem (.abs16 0x400))) &&
      reads [0xF2] (.decW .a0) &&
      reads [0x7C, 0x6F, 0x00, 0x04] (.extsB (.mem (.abs16 0x400))) &&
      reads [0x7C, 0xF3] (.extsW) &&
      reads [0x7C, 0xEC, 0x03] (.daddImm (.b 3)) &&
      reads [0x7D, 0xE4] (.daddReg .w) &&
      reads [0x7C, 0xEE, 0x03] (.dadcImm (.b 3)) &&
      reads [0x7D, 0xE6] (.dadcReg .w) &&
      reads [0x7C, 0xED, 0x03] (.dsubImm (.b 3)) &&
      reads [0x7D, 0xE5] (.dsubReg .w) &&
      reads [0x7D, 0xEF, 0x01, 0x00] (.dsbbImm (.w 1)) &&
      reads [0x7C, 0xE7] (.dsbbReg .b)) = true := by decide +kernel

/-- SE51 to SE59, SE97 to SE103, TV171, TV183. -/
theorem test_decode_multiplication_and_division :
    (reads [0x7D, 0x50, 0x03, 0x00] (.mulImm (.w 3) (.dreg .r0lR0)) &&
      reads [0x79, 0x4F, 0x34, 0x12] (.mulG .w (.areg .a0) (.mem (.abs16 0x1234))) &&
      reads [0x7D, 0x40, 0x03, 0x00] (.muluImm (.w 3) (.dreg .r0lR0)) &&
      reads [0x70, 0x02] (.muluG .b (.dreg .r0lR0) (.dreg .r1lR2)) &&
      reads [0x7C, 0xE1, 0x04] (.divImm (.b 4)) &&
      reads [0x76, 0xD4] (.div .b (.areg .a0)) &&
      reads [0x7C, 0xE0, 0x04] (.divuImm (.b 4)) &&
      reads [0x77, 0xC0] (.divu .w (.dreg .r0lR0)) &&
      reads [0x7C, 0xE3, 0x04] (.divxImm (.b 4)) &&
      reads [0x76, 0x92] (.divx .b (.dreg .r1lR2)) &&
      reads [0x7D, 0xF1] (.rmpa .w)) = true := by decide +kernel

/-- SE14 to SE17, SE106 to SE111, SE157 to SE167, TV192 to TV199; OR #IMM from R437. -/
theorem test_decode_logical :
    (reads [0x77, 0x21, 0x00, 0x00] (.andImm (.w 0) (.dreg .r0hR1)) &&
      reads [0x94, 0x03] (.andSImm 3 (.half .r0l)) &&
      reads [0x90, 0x40] (.andG .b (.areg .a0) (.dreg .r0lR0)) &&
      reads [0x11, 0x10] (.andSSrcHalf .r0l (.mem (.dsp8SB 0x10))) &&
      reads [0x76, 0x30, 0x03] (.orImm (.b 3) (.dreg .r0lR0)) &&
      reads [0x9C, 0x03] (.orSImm 3 (.half .r0l)) &&
      reads [0x98, 0x04] (.orG .b (.dreg .r0lR0) (.areg .a0)) &&
      reads [0x1C] (.orSSrcHalf .r0h .half) &&
      reads [0x76, 0x10, 0x03] (.xorImm (.b 3) (.dreg .r0lR0)) &&
      reads [0x89, 0x45] (.xorG .w (.areg .a0) (.areg .a1)) &&
      reads [0x77, 0x00, 0x00, 0x80] (.tstImm (.w 0x8000) (.dreg .r0lR0)) &&
      reads [0x80, 0x04] (.tstG .b (.dreg .r0lR0) (.areg .a0)) &&
      reads [0x75, 0x75] (.notG .w (.areg .a1)) &&
      reads [0xBF, 0x00, 0x04] (.notS (.mem (.abs16 0x400)))) = true := by decide +kernel

/-- SE76 to SE83, SE174, TV200 to TV225. -/
theorem test_decode_jumps :
    (reads [0x65] (.jmpS 5) &&
      reads [0xFE, 0x80] (.jmpB 0x80) &&
      reads [0xF4, 0x00, 0x80] (.jmpW 0x8000) &&
      reads [0xFC, 0x34, 0x12, 0x0F] (.jmpA 0xF1234) &&
      reads [0x6A, 0x10] (.jcndShort .eq 0x10) &&
      reads [0x7D, 0xCE, 0xFE] (.jcndLong .lt 0xFE) &&
      reads [0xF9, 0x1F, 0x00, 0x04, 0x10] (.adjnz .w 1 (.mem (.abs16 0x400)) 0x10) &&
      reads [0x7D, 0x20] (.jmpiW (.dreg .r0lR0)) &&
      reads [0x7D, 0x2C, 0x45, 0x23, 0x01] (.jmpiW (.mem (.dsp20A .a0 0x12345))) &&
      reads [0x7D, 0x04] (.jmpiA (.pair .a1a0)) &&
      reads [0x7D, 0x0F, 0x00, 0x04] (.jmpiA (.mem (.mem (.abs16 0x400)))) &&
      reads [0xF5, 0x0D, 0x00] (.jsrW 0x0D) &&
      reads [0xFD, 0x00, 0x10, 0x0F] (.jsrA 0xF1000) &&
      reads [0x7D, 0x30] (.jsriW (.dreg .r0lR0)) &&
      reads [0x7D, 0x14] (.jsriA (.pair .a1a0)) &&
      reads [0xEE, 0x14] (.jmps 20) &&
      reads [0xEF, 0x12] (.jsrs 18) &&
      reads [0xF3] (.rts)) = true := by decide +kernel

/-- SE34, SE64 to SE73, SE85, SE124, SE143 to SE147, SE160, SE161, TV240 to TV267. -/
theorem test_decode_strings_and_system :
    (reads [0x7D, 0xE8] (.smovf .w) &&
      reads [0x7C, 0xE9] (.smovb .b) &&
      reads [0x7C, 0xEA] (.sstr .b) &&
      reads [0x00] (.brk) &&
      reads [0x04] (.nop) &&
      reads [0xF6] (.into) &&
      reads [0xFB] (.reit) &&
      reads [0xFF] (.und) &&
      reads [0xEB, 0xDF] (.int 31) &&
      reads [0xEB, 0x65] (.fclr .i) &&
      reads [0xEB, 0x74] (.fset .u) &&
      reads [0x7D, 0xA2] (.ldipl 2) &&
      reads [0x7A, 0xF4] (.ldc .fb (.areg .a0)) &&
      reads [0xEB, 0x30, 0xFF, 0xFF] (.ldcImm .flg 0xFFFF) &&
      reads [0x7B, 0xA0] (.stc .intbh (.dreg .r0lR0)) &&
      reads [0x7C, 0xC0] (.stcPc (.pair .r2r0)) &&
      reads [0x7C, 0xCF, 0x00, 0x04] (.stcPc (.mem (.abs16 0x400))) &&
      reads [0x7C, 0xF0, 0x00, 0x04, 0x00, 0x10, 0x0F] (.ldctx 0x400 0xF1000) &&
      reads [0x7D, 0xF0, 0x00, 0x04, 0x00, 0x10, 0x0F] (.stctx 0x400 0xF1000) &&
      reads [0x7C, 0xF2, 0x03] (.enter 3) &&
      reads [0x7D, 0xF2] (.exitd) &&
      reads [0x7D, 0xF3] (.wait)) = true := by decide +kernel

/-- SBJNZ and LDINTB are second names: SE136 has the bytes of SE13, and SE89 is two LDC instructions. -/
theorem test_decode_second_names :
    (reads [0xF9, 0xF0, 0xFA] (.adjnz .w 0xF (.dreg .r0lR0) 0xFA) &&
      encode (.sbjnz .w 1 (.dreg .r0lR0) 0xFA) == [0xF9, 0xF0, 0xFA] &&
      encode (.ldintb 0xF0000) == [0xEB, 0x20, 0x0F, 0x00, 0xEB, 0x10, 0x00, 0x00] &&
      decode (encode (.ldintb 0xF0000)) == .ok (.ldcImm .intbh 0xF, encode (.ldcImm .intbl 0))) = true := by decide +kernel

/-- Codes that R142 leaves unassigned or forbids: the first bytes 7Fh and F7h, LDC to control register 000, SHL.B of R1H by R1H, ADD.B of A0 to A1,
and an instruction cut short. -/
theorem test_decode_refuses :
    (refuses [0x7F, 0x00] && refuses [0xF7, 0x00] && refuses [0xEB, 0x00, 0x00, 0x00] && refuses [0x74, 0xE3] && refuses [0xA0, 0x45] && refuses [0x7D, 0xA8] &&
      refuses [0x75, 0xC2, 0xFF] && refuses []) = true := by decide +kernel

/-- The opcode table numbers the first byte of a two-byte op-code from bit 8 on and later bytes from bit 16 on (log 1). -/
theorem test_table_words :
    (decodeTableWord 8 0x04 == some .nop && decodeTableWord 16 0x7DF3 == some .wait &&
      decodeTableWord 16 0x7301 == some (.movG .w (.dreg .r0lR0) (.dreg .r0hR1))) = true := by decide +kernel

/-! ### Single steps -/

/-- An update of a state under test. -/
abbrev Set := State → State

/-- In front of an instruction at F0100h, the interrupt stack at 0800h, everything else as after reset. -/
def base : State := { State.reset with pc := 0xF0100, isp := 0x0800, inhibitOnce := false }

def chain (l : List Set) (s : State) : State := l.foldl (fun s f => f s) s

def r0 (v : Word) : Set := fun s => s.setWord .r0lR0 v
def r1 (v : Word) : Set := fun s => s.setWord .r0hR1 v
def r2 (v : Word) : Set := fun s => s.setWord .r1lR2 v
def r3 (v : Word) : Set := fun s => s.setWord .r1hR3 v
def r0l (v : Byte) : Set := fun s => s.setByte .r0lR0 v
def r1l (v : Byte) : Set := fun s => s.setByte .r1lR2 v
def r1h (v : Byte) : Set := fun s => s.setByte .r1hR3 v
def a0 (v : Word) : Set := fun s => s.setAreg .a0 v
def a1 (v : Word) : Set := fun s => s.setAreg .a1 v
def fb (v : Word) : Set := fun s => s.setFb v
def sb (v : Word) : Set := fun s => { s with sb := v }
def isp (v : Word) : Set := fun s => { s with isp := v }
def usp (v : Word) : Set := fun s => { s with usp := v }
def intb (v : Addr) : Set := fun s => { s with intb := v }
def pc (v : Addr) : Set := fun s => { s with pc := v }
/-- FLG as a word: C 1, D 2, Z 4, S 8, B 10h, O 20h, I 40h, U 80h, IPL from bit 12. -/
def flg (v : Word) : Set := fun s => s.setFlg (Flg.ofWord v)
/-- The bits `mask` of FLG become those of `v`. -/
def upd (mask v : Word) : Set := fun s => s.setFlg (Flg.ofWord ((Flg.toWord s.flg &&& ~~~mask) ||| v))
/-- Bytes of memory from `a` on. -/
def ms (a : Nat) : List Byte → Set
  | [] => id
  | v :: t => fun s => ms (a + 1) t { s with mem := Memory.set s.mem a v }
def m (a : Nat) (v : Byte) : Set := ms a [v]
def inhibited : Set := fun s => { s with inhibitOnce := true }
def halted : Set := fun s => { s with waiting := true }
def accepts (b : Bool) : Set := fun s => { s with iAccept := b }
/-- A request of peripheral source `n` at level `l`. -/
def request (n : Nat) (l : BitVec 3) : Set := fun s =>
  { s with req := { s.req with ir := s.req.ir ||| BitVec.twoPow 32 n, ilvl := s.req.ilvl.setIfInBounds n l } }
def nmi : Set := fun s => { s with req := { s.req with nmi := true } }

/-- One step from `before` on this code leaves `after`, and nothing else than PC has changed. -/
def ran (code : List Byte) (before after : List Set) : Bool :=
  let s := chain before base
  let s := s.load s.pc code
  match step s with
  | .next t => t == chain after { s.beginInstr with pc := s.pc + BitVec.ofNat 20 code.length }
  | _ => false

/-- One step from `before` on this code leaves a state in which `p` holds: for steps that leave a free value. -/
def leaves (code : List Byte) (before : List Set) (p : State → Bool) : Bool :=
  let s := chain before base
  match step (s.load s.pc code) with
  | .next t => p t
  | _ => false

/-- TV258. -/
theorem test_brk :
    (ran [0] [ms 0xFFFE4 [0xFF, 0xFF, 0xFF, 0xFF], intb 0xF0200, ms 0xF0200 [0, 0x60, 0xF, 0]] [isp 0x7FC, ms 0x7FC [1, 1, 0, 0xF], pc 0xF6000]) = true := by decide +kernel

/-- R211, TV12, TV13, TV16, R209, TV14, TV15, TV4, TV8, TV3, TV11, TV9, TV10, TV1, TV2. -/
theorem test_mov :
    (ran [0x02, 0x10] [r0 0x1280, fb 0x400] [m 0x410 0x80, flg 8] &&
      ran [0x08] [r0 0x12AB] [r0 0x1212] &&
      ran [0x34] [r0 0x1280] [a1 0x80] &&
      ran [0xA2, 0, 0x80] [] [a0 0x8000, upd 0xC 8] &&
      ran [0xEA, 0x80] [a1 0xFFFF] [a1 0x80] &&
      ran [0xB7, 0, 4] [m 0x400 0xFF] [m 0x400 0, upd 0xC 4] &&
      ran [0xC3, 0] [r0 0x1234] [r0 0x34, upd 0xC 4] &&
      ran [0x72, 0x40] [a0 0x12AB, r0 0x5500] [r0 0x55AB, upd 0xC 8] &&
      ran [0x72, 0xC0, 0xFF, 0xFF] [a0 0x402, m 0x401 0x5A] [r0l 0x5A, upd 0xC 0] &&
      ran [0xD8, 0xF4] [a0 0x1234] [a0 0xFF] &&
      ran [0x74, 0x30, 0xFF] [r0l 0x77] [m 0x7FF 0x77] &&
      ran [0x75, 0xB0, 2] [isp 0x7FC, usp 0x300, m 0x7FE 0xC1, m 0x7FF 0x0F] [r0 0x0FC1] &&
      ran [0x75, 0xB0, 2] [flg 0x80, usp 0x500, m 0x503 0x80] [r0 0x8000, upd 0xC 8] &&
      ran [0x75, 0xC0, 0, 0] [r0 0x1234, flg 9] [r0 0, flg 5] &&
      ran [0x74, 0xC1, 0x80] [r0 0x1234] [r0 0x8034, flg 8]) = true := by decide +kernel

/-- TV264. -/
theorem test_nop :
    (ran [4] [] []) = true := by decide +kernel

/-- R434, TV193, TV190, TV192. -/
theorem test_and :
    (ran [0x10] [r0 0xF03C] [r0 0xF030] &&
      ran [0x93, 0xF] [r0 0xF0AA] [r0 0xAA, flg 4] &&
      ran [0x90, 4] [r0l 0xFF, a0 0xFFFF] [a0 0xFF] &&
      ran [0x77, 0x21, 0, 0] [r1 0xFFFF, flg 1] [r1 0, flg 5]) = true := by decide +kernel

/-- TV194, R438, TV191, R437. -/
theorem test_or :
    (ran [0x1C] [r0 0x180] [r0 0x8180, flg 8] &&
      ran [0x9C, 0x80] [r0l 3] [r0l 0x83, flg 8] &&
      ran [0x98, 4] [r0l 1, a0 0x8000] [a0 0x8001, flg 8] &&
      ran [0x77, 0x30, 0, 0x80] [r0 1] [r0 0x8001, flg 8]) = true := by decide +kernel

/-- TV117, TV116, TV113, TV114, TV115, TV110, TV111, TV138, TV137. -/
theorem test_add :
    (ran [0x20] [r0 0x170] [r0 0x171] &&
      ran [0x84, 5] [r0l 0xFB] [r0l 0, flg 5] &&
      ran [0xA1, 0] [r0 0x4000] [r0 0x8000, flg 0x28] &&
      ran [0xA0, 4] [r0l 0xFF, a0 0xFF01] [a0 0, flg 5] &&
      ran [0xC8, 0xF4] [a0 1] [a0 0x100] &&
      ran [0x76, 0x40, 1] [r0l 0x7F] [r0l 0x80, flg 0x28] &&
      ran [0x76, 0x40, 1] [r0l 0xFF] [r0l 0, flg 5] &&
      ran [0x7D, 0xB8] [flg 0x80, usp 4] [usp 0xFFFC, upd 0x2D 8] &&
      ran [0x7C, 0xEB, 0x80] [isp 0x100] [isp 0x80, flg 1]) = true := by decide +kernel

/-- R366, R364, TV123, TV126, TV121, TV122. -/
theorem test_sub :
    (ran [0x28] [r0 0x0100] [r0 0x01FF, flg 8] &&
      ran [0x8C, 1] [r0l 0x80] [r0l 0x7F, flg 0x21] &&
      ran [0xA8, 0] [r0l 0x5A] [r0l 0, flg 5] &&
      ran [0xA9, 0x10] [r2 1, r1 1] [r0 0xFFFF, flg 8] &&
      ran [0x76, 0x50, 1] [] [r0l 0xFF, flg 8] &&
      ran [0x76, 0x50, 1] [r0l 0x80] [r0l 0x7F, flg 0x21]) = true := by decide +kernel

/-- R346, SE43, TV141, TV142, SE42. -/
theorem test_cmp :
    (ran [0x38] [r0 0x0A05] [flg 8] &&
      ran [0xE6, 5, 0x10] [fb 0x400, m 0x410 5] [flg 5] &&
      ran [0xC0, 0x10] [r0 0x0180] [flg 0x21] &&
      ran [0xC0, 0x10] [r0 0xFF7F] [flg 0x28] &&
      ran [0xD1, 0xD0] [r0 0xFFFD] [flg 5] &&
      ran [0x77, 0x80, 0xFD, 0xFF] [r0 5] []) = true := by decide +kernel

/-- R263, TV51. -/
theorem test_bclr :
    (ran [0x43, 0x10] [sb 0x400, m 0x410 0xFF] [m 0x410 0xF7] &&
      ran [0x7E, 0x86] [a0 0xFFFF, m 0x1FFF 0xFF] [m 0x1FFF 0x7F]) = true := by decide +kernel

/-- TV56 (with other addresses), TV50, TV55. -/
theorem test_bset :
    (ran [0x4F, 0xFF] [sb 0x700] [m 0x7FF 0x80] &&
      ran [0x7E, 0x90, 0x0F] [] [r0 0x8000] &&
      ran [0x7E, 0x9E, 5, 0x80] [sb 0x400] [m 0x1400 0x20]) = true := by decide +kernel

/-- R269, TV54 (with other addresses). -/
theorem test_bnot :
    (ran [0x51, 0x10] [sb 0x400, m 0x410 0x01] [m 0x410 0x03] &&
      ran [0x7E, 0xA8, 0x80] [a0 0x200B, m 0x481 0] [m 0x481 8]) = true := by decide +kernel

/-- TV57, TV52, TV53. -/
theorem test_btst :
    (ran [0x58, 0] [sb 0x400, m 0x400 0xFE] [upd 5 4] &&
      ran [0x7E, 0xBB, 0xFB] [fb 0x500, m 0x4FF 8] [upd 5 1] &&
      ran [0x7E, 0xBB, 0xFB] [fb 0x500, m 0x4FF 0xF7] [upd 5 4]) = true := by decide +kernel

/-- TV200, TV203, TV204, TV201, TV202. -/
theorem test_jmp :
    (ran [0x67] [] [pc 0xF0109] &&
      ran [0xF4, 0, 0x80] [pc 0x400] [pc 0xF8401] &&
      ran [0xFC, 0x34, 0x12, 0xFF] [] [pc 0xF1234] &&
      ran [0xFE, 0x80] [] [pc 0xF0081] &&
      ran [0xFE, 0x7F] [] [pc 0xF0180]) = true := by decide +kernel

/-- TV207, TV208, TV209, TV210. -/
theorem test_jcnd :
    (ran [0x69, 5] [flg 5] [pc 0xF0102] &&
      ran [0x6D, 5] [] [pc 0xF0106] &&
      ran [0x7D, 0xCE, 0xFE] [flg 8] [pc 0xF0100] &&
      ran [0x7D, 0xCE, 0xFE] [flg 0x28] [pc 0xF0103]) = true := by decide +kernel

/-- TV27, R224, TV25, TV26. -/
theorem test_push :
    (ran [0x8A] [r0 0x9A00] [m 0x7FF 0x9A, isp 0x7FF] &&
      ran [0xCA] [a1 0x1234] [ms 0x7FE [0x34, 0x12], isp 0x7FE] &&
      ran [0x74, 0x44] [a0 0x12AB] [m 0x7FF 0xAB, isp 0x7FF] &&
      ran [0x7D, 0xE2, 0xEF, 0xBE] [isp 1] [isp 0xFFFF, m 0xFFFF 0xEF, m 0x10000 0xBE]) = true := by decide +kernel

/-- TV20, TV21, R217. -/
theorem test_pop :
    (ran [0x9A] [isp 0x7FF, m 0x7FF 0xAA, r0 0x1234] [r0 0xAA34, isp 0x800] &&
      ran [0xD2] [isp 0xFFFF, m 0xFFFF 0x34, m 0x10000 0x12] [a0 0x1234, isp 1] &&
      ran [0x75, 0xD6] [a0 0x400, isp 0x7FE, ms 0x7FE [0x34, 0x12]] [ms 0x400 [0x34, 0x12], isp 0x800]) = true := by decide +kernel

/-- TV132, TV131. -/
theorem test_inc :
    (ran [0xBA] [a1 0xFFFF] [a1 0, flg 4] &&
      ran [0xA4] [r0l 0xFF, flg 0x20] [r0l 0, flg 0x24]) = true := by decide +kernel

/-- TV133, TV134. -/
theorem test_dec :
    (ran [0xF2] [] [a0 0xFFFF, flg 8] &&
      ran [0xAF, 0, 4] [m 0x400 1] [m 0x400 0, flg 4]) = true := by decide +kernel

/-- TV199, TV198. -/
theorem test_not :
    (ran [0xBF, 0, 4] [m 0x400 0x7F] [m 0x400 0x80, flg 8] &&
      ran [0x75, 0x70] [r0 0xFFFF] [r0 0, flg 4]) = true := by decide +kernel

/-- TV34, TV35. -/
theorem test_stz :
    (ran [0xCC, 5] [r0l 0xAA] [] &&
      ran [0xCC, 5] [r0l 0xAA, flg 4] [r0l 5]) = true := by decide +kernel

/-- TV36. -/
theorem test_stnz :
    (ran [0xD7, 5, 0, 4] [flg 4, m 0x400 0xAA] []) = true := by decide +kernel

/-- TV37, TV38. -/
theorem test_stzx :
    (ran [0xDB, 1, 2] [r0 0xAA55] [r0 0x255] &&
      ran [0xDD, 1, 0x10, 2] [flg 4, sb 0x400] [m 0x410 1]) = true := by decide +kernel

/-- TV22. -/
theorem test_pushm :
    (ran [0xEC, 0xCB] [r0 0x1111, r1 0x2222, a0 0x4444, sb 0x6666, fb 0x7777] [ms 0x7F6 [0x11, 0x11, 0x22, 0x22, 0x44, 0x44, 0x66, 0x66, 0x77, 0x77], isp 0x7F6]) = true := by decide +kernel

/-- TV23. -/
theorem test_popm :
    (ran [0xED, 0xD3] [ms 0x7F6 [0x11, 0x11, 0x22, 0x22, 0x44, 0x44, 0x66, 0x66, 0x77, 0x77], isp 0x7F6] [r0 0x1111, r1 0x2222, a0 0x4444, sb 0x6666, fb 0x7777, isp 0x800]) = true := by decide +kernel

/-- TV223. -/
theorem test_jmps :
    (ran [0xEE, 0xFF] [ms 0xFFE00 [0, 0x80]] [pc 0xF8000]) = true := by decide +kernel

/-- TV222. -/
theorem test_jsrs :
    (ran [0xEF, 0x12] [ms 0xFFFDA [0x34, 0x12]] [ms 0x7FD [2, 1, 0xF], isp 0x7FD, pc 0xF1234]) = true := by decide +kernel

/-- TV224. -/
theorem test_rts :
    (ran [0xF3] [isp 0x7FD, ms 0x7FD [4, 1, 0xFF]] [pc 0xF0104, isp 0x800]) = true := by decide +kernel

/-- TV225 (with other addresses), TV220. -/
theorem test_jsr :
    (ran [0xF5, 0xD, 0] [flg 0x80, usp 0x600] [ms 0x5FD [3, 1, 0xF], usp 0x5FD, pc 0xF010E] &&
      ran [0xFD, 0, 0x10, 0xF] [] [ms 0x7FD [4, 1, 0xF], isp 0x7FD, pc 0xF1000]) = true := by decide +kernel

/-- TV255, TV256. -/
theorem test_into :
    (ran [0xF6] [] [] &&
      ran [0xF6] [flg 0x60, ms 0xFFFE0 [0, 0x40, 0xF, 0]] [flg 0x20, isp 0x7FC, ms 0x7FC [1, 1, 0x60, 0xF], pc 0xF4000, accepts false]) = true := by decide +kernel

/-- TV259, TV260. -/
theorem test_reit :
    (ran [0xFB] [isp 0x7FC, ms 0x7FC [2, 1, 0xC0, 0x7F]] [pc 0xF0102, flg 0x70C0, isp 0x800, fun s => {s with iAccept := true}] &&
      ran [0xFB] [isp 0x7FC, ms 0x7FC [0, 0, 0, 0xF0]] [pc 0, flg 0x7000, isp 0x800]) = true := by decide +kernel

/-- TV257. -/
theorem test_und :
    (ran [0xFF] [ms 0xFFFDC [0, 0x50, 0xF, 0]] [isp 0x7FC, ms 0x7FC [1, 1, 0, 0xF], pc 0xF5000]) = true := by decide +kernel

/-- TV162, TV166, SE101. -/
theorem test_mulu :
    (ran [0x71, 0] [r0 0xFFFF] [r2 0xFFFE, r0 1] &&
      ran [0x70, 2] [r0l 0xFE, r1l 3] [r1 0x2FA] &&
      ran [0x7D, 0x40, 3, 0] [r0 0x8000] [r2 1, r0 0x8000]) = true := by decide +kernel

/-- TV161, TV163, TV160, TV164. -/
theorem test_mul :
    (ran [0x79, 0x11] [r1 0xFFFF, r3 7] [r3 0, r1 1] &&
      ran [0x78, 4] [r0l 0xFE, a0 0x1203] [a0 0xFFFA] &&
      ran [0x7C, 0x50, 0xFF] [r0 0x1280] [r0 0x80] &&
      ran [0x7D, 0x56, 2, 0] [a0 0x400, ms 0x400 [0xFF, 0xFF]] [ms 0x400 [0xFE, 0xFF, 0xFF, 0xFF]]) = true := by decide +kernel

/-- TV197, TV196. -/
theorem test_tst :
    (ran [0x80, 4] [r0l 0xFF, a0 0xFF00] [flg 4] &&
      ran [0x77, 0, 0, 0x80] [r0 0x8001] [flg 8]) = true := by decide +kernel

/-- TV195, SE166. -/
theorem test_xor :
    (ran [0x89, 0] [r0 0x1234] [r0 0, flg 4] &&
      ran [0x76, 0x10, 3] [r0l 0x81] [r0l 0x82, flg 8]) = true := by decide +kernel

/-- TV119, TV118. -/
theorem test_adc :
    (ran [0xB0, 0x10] [r0 0x7F, flg 1] [r0 0x80, flg 0x28] &&
      ran [0x77, 0x60, 0, 0] [r0 0xFFFF, flg 1] [r0 0, flg 5]) = true := by decide +kernel

/-- TV126, TV124, TV125. -/
theorem test_sbb :
    (ran [0xB9, 0x32] [r2 1, r1 1, r0 0xFFFF, flg 8] [r2 0, flg 5] &&
      ran [0x76, 0x70, 0] [] [r0l 0xFF, flg 8] &&
      ran [0x76, 0x70, 0] [flg 1] [r0l 0, flg 5]) = true := by decide +kernel

/-- TV83, TV85, TV87, TV88. -/
theorem test_rot :
    (ran [0xE1, 0x70] [r0 0x1234] [r0 0x3412] &&
      ran [0xE0, 0xF0] [r0l 0x81] [flg 9] &&
      ran [0x74, 0x60] [r0l 0x81, flg 5] [] &&
      leaves [0x74, 0x60] [r1h 9] (fun t => t.pc == 0xF0102 && t.bank0.r1 == 0x900)) = true := by decide +kernel

/-- TV96, TV98, TV99, TV100, TV103, TV102. -/
theorem test_shl :
    (ran [0xE8, 0x70] [r0l 1] [r0l 0, flg 5] &&
      ran [0xE9, 0x80] [r0 0xFFFF] [r0 0x7FFF, flg 1] &&
      ran [0x74, 0xE0] [r1h 0xF8, r0l 0x80] [r0l 0, flg 5] &&
      ran [0x75, 0xE0] [r1h 0xF0, r0 0x8000] [r0 0, flg 5] &&
      leaves [0xEB, 0x11] [r3 0x123, r1 0x467] (fun t => t.bank0.r3 == 0x1230 && t.bank0.r1 == 0x4670 && !t.flg.s) &&
      leaves [0xEB, 0x83] [r2 0x123, r0 0x4567] (fun t => t.bank0.r2 == 0x1234 && t.bank0.r0 == 0x5670 && !t.flg.s)) = true := by decide +kernel

/-- TV91, TV93, TV94, TV95, TV104, TV101. -/
theorem test_sha :
    (ran [0xF0, 0x10] [r0l 0x40] [r0l 0, flg 5] &&
      ran [0xF1, 0xF0] [r0 0x8000] [r0 0xFF80, flg 8] &&
      ran [0x74, 0xF0] [r1h 0xF8, r0l 0x80] [r0l 0xFF, flg 9] &&
      leaves [0x75, 0xF0] [r1h 0x11] (fun t => t.pc == 0xF0102) &&
      ran [0xEB, 0x21] [r2 5, r0 7] [] &&
      leaves [0xEB, 0xBF] [r3 0x8000] (fun t => t.bank0.r3 == 0xFF80 && t.bank0.r1 == 0 && t.flg.s && !t.flg.o)) = true := by decide +kernel

/-- TV211, TV214. -/
theorem test_adjnz :
    (ran [0xF8, 0xF0, 0xFE] [r0l 1, flg 1] [r0l 0] &&
      ran [0xF9, 0x1F, 0, 4, 0x10] [] [m 0x400 1, pc 0xF0112]) = true := by decide +kernel

/-- TV33, SE149, TV32. -/
theorem test_ste :
    (ran [0x75, 0, 0x34, 0x12, 0x0F] [m 0xF1234 9] [m 0xF1234 0, upd 0xC 4] &&
      ran [0x75, 0x10, 0, 0, 1] [r0 0xBEEF, a0 2] [ms 0x10002 [0xEF, 0xBE], flg 8] &&
      ran [0x74, 0x24] [a0 0x8000, a1 1, m 0x18000 5] [m 0x18000 0, upd 0xC 8]) = true := by decide +kernel

/-- TV127, TV128. -/
theorem test_neg :
    (ran [0x74, 0x50] [] [flg 5] &&
      ran [0x74, 0x50] [r0l 0x80] [flg 0x28]) = true := by decide +kernel

/-- TV29, TV31, TV30. -/
theorem test_lde :
    (ran [0x74, 0x84, 0x34, 0x12, 0x0F] [m 0xF1234 0x80] [a0 0x80] &&
      ran [0x75, 0x90, 0xFF, 0xFF, 0x0F] [a0 0x402, r0 5] [r0 0, upd 0xC 4] &&
      ran [0x75, 0xA0] [a1 0xFFFF, a0 0xFFFE, m 0xFFFFE 0xF] [r0 0xF]) = true := by decide +kernel

/-- TV172, TV173, SE58. -/
theorem test_divx :
    (ran [0x76, 0x92] [r0 0xFFF9, r1l 2] [r0 0x1FC] &&
      ran [0x76, 0x92] [r0 7, r1l 0xFE] [r0 0xFFFC] &&
      ran [0x7C, 0xE3, 4] [r0 0xFFF9] [r0 0x01FE]) = true := by decide +kernel

/-- TV80. -/
theorem test_rolc :
    (ran [0x76, 0xA0] [r0l 0x80, flg 1] [r0l 1, flg 1]) = true := by decide +kernel

/-- TV81, TV82. -/
theorem test_rorc :
    (ran [0x77, 0xB0] [r0 1] [r0 0, flg 5] &&
      ran [0x77, 0xB0] [flg 1] [r0 0x8000, flg 8]) = true := by decide +kernel

/-- TV178, TV179, TV182. -/
theorem test_divu :
    (ran [0x77, 0xC1] [r2 1, r1 2] [r0 0x8000, r2 0] &&
      leaves [0x77, 0xC1] [r2 2, r1 2] (fun t => t.flg.o) &&
      ran [0x7C, 0xE0, 4] [r0 0x3FF] [r0 0x3FF]) = true := by decide +kernel

/-- TV168, TV169, SE52. -/
theorem test_div :
    (ran [0x76, 0xD2] [r0 0xFFF9, r1l 2] [r0 0xFFFD] &&
      ran [0x76, 0xD2] [r0 7, r1l 0xFE] [r0 0x1FD] &&
      ran [0x7C, 0xE1, 4] [r0 0xFFF9] [r0 0xFDFF]) = true := by decide +kernel

/-- TV120. -/
theorem test_adcf :
    (ran [0x77, 0xE0] [r0 0xFFFF] [flg 8]) = true := by decide +kernel

/-- TV129, TV130. -/
theorem test_abs :
    (leaves [0x76, 0xF0] [r0l 0x80] (fun t => t.bank0.r0 == 0x80 && t.flg.o && t.flg.s && !t.flg.z) &&
      leaves [0x76, 0xF0] [r0l 0xFF] (fun t => t.bank0.r0 == 1 && !t.flg.o && !t.flg.s && !t.flg.z)) = true := by decide +kernel

/-- TV245, TV247, TV243. -/
theorem test_ldc :
    (ran [0x7A, 0xA0] [r0 0xFFFF, intb 0x1234] [intb 0xF1234, inhibited] &&
      ran [0x7A, 0xD0] [flg 0x80, r0 0x300] [usp 0x300, inhibited] &&
      ran [0xEB, 0x30, 0xFF, 0xFF] [] [flg 0x70FF, inhibited]) = true := by decide +kernel

/-- TV244, TV246, TV263. -/
theorem test_stc :
    (leaves [0x7B, 0xB0] [flg 0x70FF] (fun t => t.word .r0lR0 == 0x70FF) &&
      ran [0x7B, 0xA0] [intb 0xF1234] [r0 0xF] &&
      ran [0x7C, 0xC0] [pc 0xF0300] [r0 0x302, r2 0xF]) = true := by decide +kernel

/-- TV40, TV41. -/
theorem test_xchg :
    (ran [0x7A, 0x14] [r0 0x12EE, a0 0xABCD] [a0 0x12, r0 0xCDEE] &&
      ran [0x7A, 0x26] [r1l 0x55, a0 0x400, m 0x400 0xAA] [r1l 0xAA, m 0x400 0x55]) = true := by decide +kernel

/-- TV19, TV18. -/
theorem test_movdir :
    (ran [0x7C, 0x2F, 0, 4] [m 0x400 0x47, r0l 0x12] [r0l 0x72] &&
      ran [0x7C, 0x91] [r0 0x3CA5] [r0 0x3AA5]) = true := by decide +kernel

/-- TV135, TV136. -/
theorem test_exts :
    (ran [0x7C, 0x6F, 0, 4] [m 0x400 0x80] [m 0x401 0xFF, flg 8] &&
      ran [0x7C, 0xF3] [r0 0x8000, r2 0x1234, flg 4] [r2 0xFFFF]) = true := by decide +kernel

/-- TV219, TV217, TV218. -/
theorem test_jmpi :
    (ran [0x7D, 0x0F, 0, 4] [ms 0x400 [0x34, 0x12, 0xFF]] [pc 0xF1234] &&
      ran [0x7D, 0x26] [a0 0x400, m 0x400 0x10] [pc 0xF0110] &&
      match exec (.jmpiW (.dreg .r0lR0)) (chain [pc 0x10, r0 0xFFE0] base) with | .next t => t.pc == 0xFFFF0 | _ => false) = true := by decide +kernel

/-- SE81, TV221. -/
theorem test_jsri :
    (ran [0x7D, 0x14] [a1 0xFFF1, a0 0x2345] [ms 0x7FD [2, 1, 0xF], isp 0x7FD, pc 0x12345] &&
      ran [0x7D, 0x30] [r0 0xFF00] [ms 0x7FD [2, 1, 0xF], isp 0x7FD, pc 0xF0000]) = true := by decide +kernel

/-- TV28. -/
theorem test_pusha :
    (ran [0x7D, 0x99, 0xFF] [a1 0xFF80] [m 0x7FE 0x7F, isp 0x7FE]) = true := by decide +kernel

/-- TV252. -/
theorem test_ldipl :
    (ran [0x7D, 0xA7] [flg 0x40] [flg 0x7040]) = true := by decide +kernel

/-- TV66, TV67, TV64, TV65. -/
theorem test_bmcnd :
    (ran [0x7D, 0xDC] [] [flg 1] &&
      ran [0x7D, 0xD5] [flg 1] [flg 0] &&
      ran [0x7E, 0x21, 0, 0] [r1 0xFFFF] [r1 0xFFFE] &&
      ran [0x7E, 0x2A, 0x83, 0xFE] [flg 8, sb 0x400] [m 0x410 8]) = true := by decide +kernel

/-- TV151, TV150, TV157. -/
theorem test_dadd :
    (ran [0x7C, 0xE4] [r0 0x2538] [r0 0x2563] &&
      ran [0x7C, 0xEC, 1] [r0l 0x99] [r0l 0, flg 5] &&
      leaves [0x7C, 0xEC, 1] [r0l 0xA] (fun t => t.pc == 0xF0103)) = true := by decide +kernel

/-- TV154, TV153. -/
theorem test_dsub :
    (ran [0x7D, 0xE5] [r0 0x1000, r1 1] [r0 0x999, flg 1] &&
      ran [0x7C, 0xED, 1] [] [r0l 0x99, flg 8]) = true := by decide +kernel

/-- TV152, SE45. -/
theorem test_dadc :
    (ran [0x7D, 0xE6] [r0 0x9999, flg 1] [r0 0, flg 5] &&
      ran [0x7C, 0xEE, 3] [r0l 0x96, flg 1] [r0l 0, flg 5]) = true := by decide +kernel

/-- TV155, TV156. -/
theorem test_dsbb :
    (ran [0x7C, 0xE7] [r0 0x2550, flg 1] [r0 0x2525, flg 1] &&
      ran [0x7D, 0xEF, 1, 0] [] [r0 0x9998, flg 8]) = true := by decide +kernel

/-- TV231, TV230. -/
theorem test_smovf :
    (ran [0x7D, 0xE8] [r1h 0xE, a0 0xFFFE, a1 0x400, r3 1, ms 0xEFFFE [0x34, 0x12]] [ms 0x400 [0x34, 0x12], a0 0, r1h 0xF, a1 0x402, r3 0] &&
      ran [0x7C, 0xE8] [a0 0x400, a1 0x401, r3 3, m 0x400 0xAA] [m 0x401 0xAA, a0 0x401, a1 0x402, r3 2, pc 0xF0100]) = true := by decide +kernel

/-- TV232. -/
theorem test_smovb :
    (ran [0x7C, 0xE9] [r1h 0xF, a0 0, a1 0x400, r3 1, m 0xF0000 0x5A] [m 0x400 0x5A, a0 0xFFFF, r1h 0xE, a1 0x3FF, r3 0]) = true := by decide +kernel

/-- TV233. -/
theorem test_sstr :
    (ran [0x7D, 0xEA] [r0 0xA55A, a1 0x401, r3 2] [ms 0x401 [0x5A, 0xA5], a1 0x403, r3 1, pc 0xF0100]) = true := by decide +kernel

/-- TV184, TV185. -/
theorem test_rmpa :
    (ran [0x7C, 0xF1] [flg 0x20] [] &&
      leaves [0x7C, 0xF1] [r3 1, r0 0x7FFF, a0 0x400, a1 0x401, m 0x400 1, m 0x401 1] (fun t => t.flg.o && t.bank0.r0 == 0x8000 && t.pc == 0xF0102)) = true := by decide +kernel

/-- TV265. -/
theorem test_ldctx :
    (ran [0x7C, 0xF0, 0, 4, 0, 0x10, 0xF] [m 0x400 1, ms 0xF1002 [0x83, 6], isp 0x7F0, ms 0x7F0 [0x11, 0x11, 0x22, 0x22, 0x33, 0x33]] [r0 0x1111, r1 0x2222, fb 0x3333, isp 0x7F6]) = true := by decide +kernel

/-- TV266. -/
theorem test_stctx :
    (ran [0x7D, 0xF0, 0, 4, 0, 0x10, 0xF] [m 0x400 1, ms 0xF1002 [0x83, 6], isp 0x7F6, r0 0x1111, r1 0x2222, fb 0x3333] [ms 0x7F0 [0x11, 0x11, 0x22, 0x22, 0x33, 0x33], isp 0x7F0]) = true := by decide +kernel

/-- TV261, TV262. -/
theorem test_enter :
    (ran [0x7C, 0xF2, 0] [fb 0x1234] [ms 0x7FE [0x34, 0x12], fb 0x7FE, isp 0x7FE] &&
      ran [0x7C, 0xF2, 3] [isp 0x7FD, fb 0x1234, ms 0x7FD [3, 1, 0xF]] [ms 0x7FB [0x34, 0x12], fb 0x7FB, isp 0x7F8]) = true := by decide +kernel

/-- TV262. -/
theorem test_exitd :
    (ran [0x7D, 0xF2] [isp 0x7F8, fb 0x7FB, ms 0x7FB [0x34, 0x12, 3, 1, 0xF]] [fb 0x1234, isp 0x800, pc 0xF0103]) = true := by decide +kernel

/-- TV267. -/
theorem test_wait :
    (ran [0x7D, 0xF3] [] [halted]) = true := by decide +kernel

/-- TV62. -/
theorem test_btstc :
    (ran [0x7E, 0, 7] [r0 0x80] [upd 5 1, r0 0]) = true := by decide +kernel

/-- TV60, TV61. -/
theorem test_btsts :
    (ran [0x7E, 0x1F, 0, 0x20] [] [upd 5 4, m 0x400 1] &&
      ran [0x7E, 0x1F, 0, 0x20] [m 0x400 1] [upd 5 1]) = true := by decide +kernel

/-- TV58, TV59. -/
theorem test_bntst :
    (ran [0x7E, 0x30, 0] [] [upd 5 5] &&
      ran [0x7E, 0x30, 0] [r0 1] [upd 5 0]) = true := by decide +kernel

/-- TV71, TV73. -/
theorem test_band :
    (ran [0x7E, 0x40, 0] [flg 1] [flg 0] &&
      ran [0x7E, 0x40, 0] [r0 1, flg 1] [flg 1]) = true := by decide +kernel

/-- TV71, TV73. -/
theorem test_bnand :
    (ran [0x7E, 0x50, 0] [flg 1] [flg 1] &&
      ran [0x7E, 0x50, 0] [r0 1, flg 1] [flg 0]) = true := by decide +kernel

/-- TV70, TV72. -/
theorem test_bor :
    (ran [0x7E, 0x60, 0] [] [] &&
      ran [0x7E, 0x60, 0] [r0 1] [flg 1]) = true := by decide +kernel

/-- TV70, TV72. -/
theorem test_bnor :
    (ran [0x7E, 0x70, 0] [] [flg 1] &&
      ran [0x7E, 0x70, 0] [r0 1] []) = true := by decide +kernel

/-- TV72, TV73. -/
theorem test_bxor :
    (ran [0x7E, 0xC0, 0] [r0 1] [flg 1] &&
      ran [0x7E, 0xC0, 0] [r0 1, flg 1] [flg 0]) = true := by decide +kernel

/-- TV70, TV71. -/
theorem test_bnxor :
    (ran [0x7E, 0xD0, 0] [] [flg 1] &&
      ran [0x7E, 0xD0, 0] [flg 1] [flg 0]) = true := by decide +kernel

/-- TV248. -/
theorem test_pushc :
    (ran [0xEB, 0x52] [] [ms 0x7FE [0, 8], isp 0x7FE]) = true := by decide +kernel

/-- TV249, TV250 (with other addresses). -/
theorem test_popc :
    (ran [0xEB, 0x53] [isp 0x7FE, ms 0x7FE [0x23, 1]] [isp 0x123, inhibited] &&
      ran [0xEB, 0x43] [flg 0x80, usp 0x500, ms 0x500 [0, 9]] [isp 0x900, usp 0x502, inhibited]) = true := by decide +kernel

/-- TV240. -/
theorem test_fset :
    (ran [0xEB, 0x44] [] [flg 0x10]) = true := by decide +kernel

/-- TV241. -/
theorem test_fclr :
    (ran [0xEB, 0x65] [flg 0x70FD] [flg 0x70BD]) = true := by decide +kernel

/-- TV17. -/
theorem test_mova :
    (ran [0xEB, 0x0B, 0xFF] [] [r0 0xFFFF]) = true := by decide +kernel

/-- TV253, TV254 (with other addresses). -/
theorem test_int :
    (ran [0xEB, 0xDF] [flg 0xC0, usp 0x300, intb 0xF0200, ms 0xF027C [0, 0x30, 0xF, 0]] [flg 0, isp 0x7FC, ms 0x7FC [2, 1, 0xC0, 0xF], pc 0xF3000, accepts false] &&
      ran [0xEB, 0xE0] [flg 0xC0, usp 0x600, intb 0xF0200, ms 0xF0280 [0, 0x30, 0xF, 0]] [flg 0x80, usp 0x5FC, ms 0x5FC [2, 1, 0xC0, 0xF], pc 0xF3000, accepts false]) = true := by decide +kernel


/-- TV280: a request of level 4 above IPL 0 is taken instead of the NOP. -/
theorem test_interrupt_TV280 :
    leaves [0x04] [flg 0x40, accepts true, intb 0xF0200, ms 0xF020C [0, 0x70, 0xF, 0], request 3 4] (fun t =>
      t.pc == 0xF7000 && Flg.toWord t.flg == 0x4000 && t.isp == 0x7FC && t.peek 0x7FD == 1 && t.peek 0x7FE == 0x40 && t.peek 0x7FF == 0xF &&
      t.req.ir == 0) = true := by decide +kernel

/-- TV281: a request of level 4 at IPL 4 stays pending, and the NOP runs. -/
theorem test_interrupt_TV281 :
    leaves [0x04] [flg 0x4040, accepts true, request 3 4] (fun t => t.pc == 0xF0101 && t.req.ir == 8) = true := by decide +kernel

/-- TV282: NMI is taken with I = 0 and sets IPL to 7. -/
theorem test_interrupt_TV282 :
    leaves [0x04] [nmi, ms 0xFFFF8 [0, 0x80, 0xF, 0]] (fun t => t.pc == 0xF8000 && Flg.toWord t.flg == 0x7000 && !t.req.nmi) = true := by
  decide +kernel

/-- TV288: reset takes PC from bits 19:0 of the vector. -/
theorem test_reset_TV288 :
    leaves [] [ms 0xFFFFC [0, 0, 0xF, 0xFF], r0 5, sb 7, flg 0xFF, fun s => { s with resetReq := true }] (fun t =>
      t.pc == 0xF0000 && t.bank0 == Bank.zero && t.sb == 0 && t.flg == Flg.zero && t.inhibitOnce && t.peek 0xFFFFE == 0xF) = true := by
  decide +kernel

/-- LDINTB (R540, SE89): the term of the second name loads INTB. -/
theorem test_ldintb_SE89 :
    (match exec (.ldintb 0xF0200) base with
      | .next t => t.intb == 0xF0200 && t.pc == 0xF0108 && t.inhibitOnce
      | _ => false) = true := by decide +kernel

/-- SBJNZ (TV215): the subtraction of 8 from 8 does not jump. -/
theorem test_sbjnz_TV215 :
    (match exec (.sbjnz .b 8 (.dreg .r0lR0) 0x10) (r0 8 base) with
      | .next t => t.word .r0lR0 == 0 && t.pc == 0xF0103
      | _ => false) = true := by decide +kernel

/-! ### Each obligation's hypotheses are met together by a concrete state and operands -/

/-- A memory with one byte. -/
def oneByte : State := m 0x400 5 base

/-- `base` with a NOP in front of PC. -/
def atNop : State := m 0xF0100 0x04 base

/-- The instruction or step answers a next state. -/
def answers : Result → Bool
  | .next _ => true
  | _ => false

theorem exists_next {r : Result} (h : answers r = true) : ∃ t, r = .next t := by
  cases r with
  | next t => exact ⟨t, rfl⟩
  | fault f => cases h
  | refused e => cases h

/-- In writable memory, or in plain memory, address by address. -/
theorem all_of_all {p : Addr → Bool} {l : List Addr} (h : l.all p = true) : ∀ a ∈ l, p a = true := by
  simpa using h

/-- The premise of BitWrites, RegisterLists, ControlRegisters and of every statement that reads stored bytes back. -/
theorem test_witness_memory_wf : Memory.wf oneByte.mem = true ∧ Memory.wf State.reset.mem = true := by decide +kernel

theorem test_witness_DecodeInvertsEncode : let i := Instr.addG .w (.mem (.dsp16A .a1 0xFFFF)) (.areg .a0)
    i.wellFormed = true ∧ Instr.canonical i = true := by decide +kernel

theorem test_witness_DecodedIsInstruction : decode [0x73, 0x01, 0x55] = .ok (.movG .w (.dreg .r0lR0) (.dreg .r0hR1), [0x55]) := by
  decide +kernel

theorem test_witness_SecondNames : (Instr.sbjnz .b 8 (.dreg .r0lR0) 0x80).wellFormed = true := by decide +kernel

theorem test_witness_WellFormedCompletes : (Instr.jmps 18).wellFormed = true ∧ (Instr.jmps 17).wellFormed = false := by decide +kernel

/-- R615: an instruction runs because nothing is requested, because of the one-shot inhibit, or as the first of a handler. -/
theorem test_witness_StepRunsDecoded :
    (atNop.runsInstr ∧ decode (atNop.fetch atNop.pc fetchLength) = .ok (.nop, List.replicate 7 0) ∧ Instr.nop.wellFormed = true) ∧
    (inhibited (nmi base)).runsInstr ∧ { nmi base with boundaryTaken := true }.runsInstr :=
  ⟨⟨⟨rfl, .inr (.inr ⟨by decide +kernel, rfl⟩)⟩, by decide +kernel, rfl⟩, ⟨rfl, .inl rfl⟩, ⟨rfl, .inr (.inl rfl)⟩⟩

/-- A state in which the step has no successor: 7Fh is no op-code. -/
theorem test_witness_StepProgress : let s := m 0xF0100 0x7F base
    s.runsInstr ∧ refuses (s.fetch s.pc fetchLength) = true :=
  ⟨⟨rfl, .inr (.inr ⟨by decide +kernel, rfl⟩)⟩, by decide +kernel⟩

theorem test_witness_StepKeepsInvariant : State.reset.Inv ∧ atNop.Inv ∧ ∃ t, step atNop = .next t :=
  ⟨⟨rfl, nofun, nofun⟩, ⟨by decide +kernel, nofun, nofun⟩, exists_next (by decide +kernel)⟩

/-- A halted state that has the invariant. -/
theorem test_witness_StepKeepsInvariant_halted : (halted base).Inv ∧ ∃ t, step (halted base) = .next t :=
  ⟨⟨rfl, fun _ => rfl, fun _ => rfl⟩, exists_next (by decide +kernel)⟩

theorem test_witness_ResetStep : { halted base with resetReq := true }.resetReq = true := rfl

/-- A chip with 10 Kbytes of internal RAM, 64 Kbytes of internal ROM, and external RAM and ROM between them (R6, R61). -/
def chip : State := { oneByte with layout := {
    sfrTop := 0x3FF, ramEnd := 0x2BFF, romStart := 0xF0000,
    external := [⟨0x4000, 0x4FFF, true⟩, ⟨0x5000, 0x5FFF, false⟩] } }

/-- Every clause at the ends of its areas: SFR up to 003FFh, RAM from 00400h to RAM_END, external RAM and ROM, ROM from
ROM_START on, nothing in between. -/
theorem test_witness_StoredByteReadBack : Memory.wf oneByte.mem = true ∧
    [0x400, 0x2BFF, 0x4000, 0x4FFF].all chip.layout.isWritable = true ∧
    [0x3FF, 0x2C00, 0x3FFF, 0x5000, 0x5FFF, 0xEFFFF, 0xF0000, 0xFFFFF].any chip.layout.isWritable = false ∧
    [0x400, 0x2BFF, 0x4000, 0x4FFF, 0x5000, 0x5FFF, 0xF0000, 0xFFFFF].all chip.layout.inImage = true ∧
    [0, 0x3FF, 0x2C00, 0x3FFF, 0x6000, 0xEFFFF].any chip.layout.inImage = false ∧
    [0, 0x3FF].all chip.layout.isSfr = true ∧ chip.layout.isSfr 0x400 = false := by decide +kernel

/-- R80, D3: a store to external RAM is what the next load answers. -/
theorem test_external_R80 :
    (match exec (.movSHalfDest .r0l (.abs16 0x4FFF)) (r0 0x55 chip) with
      | .next t => (readByte t 0x4FFF).1 == 0x55 && t.platformLog == []
      | _ => false) = true := by decide +kernel

/-- The host's word of a program runs from reset, where PC is in the SFR area (log 3). -/
theorem test_fetch_word_from_reset :
    (match step (State.reset.withFetchWord 8 0x04) with
      | .next t => t.pc == 0xFFE01
      | _ => false) = true := by decide +kernel

/-- D3: STE to ROM leaves the image and reaches the platform; LDE reads ROM. -/
theorem test_rom_D3 :
    (match exec (.steAbs20 .b (.dreg .r0lR0) 0xF0000) (r0 0x55 chip), exec (.ldeAbs20 .b 0xF0000 (.dreg .r0lR0)) (r0 0x55 (m 0xF0000 0xAA chip)) with
      | .next t, .next u => t.mem == chip.mem && t.platformLog == [.write 0xF0000 0x55] && u.word .r0lR0 == 0xAA && u.platformLog == []
      | _, _ => false) = true := by decide +kernel

/-- RegistersKept, FlagsKept, MemoryKept, ControlKept: an instruction that writes a register, flags and memory, and for each frame something that it leaves alone. -/
theorem test_witness_Kept : let i := Instr.addG .w (.dreg .r0lR0) (.mem (.abs16 0x400))
    (∃ t, exec i oneByte = .next t) ∧ Reg.r0l ∉ Instr.writes oneByte i ∧ Flag.i ∉ Instr.flags oneByte i ∧ Instr.setsIpl i = false ∧
      (0x3FF : Addr) ∉ Instr.stores oneByte i ∧ (0x402 : Addr) ∉ Instr.stores oneByte i :=
  ⟨exists_next (by decide +kernel), by decide +kernel, by decide +kernel, by decide +kernel, by decide +kernel, by decide +kernel⟩

/-- Each row of the table of R125 whose bit is in memory. -/
theorem test_witness_Addresses :
    base.bitPlace (.ind .a0) = .mem 0 0 ∧ (a0 0xFFFF base).bitPlace (.base8A .a0 0xFF) = .mem 0x20FE 7 ∧
    base.bitPlace (.base8SB 0xFF) = .mem 0x1F 7 ∧ base.bitPlace (.base8FB 0x80) = .mem 0xFFF0 0 ∧
    base.bitPlace (.base16A .a1 0xFFFF) = .mem 0xFFFF 0 ∧ base.bitPlace (.base16SB 0xFFFF) = .mem 0x1FFF 7 ∧
    base.bitPlace (.base16 0xFFFF) = .mem 0x1FFF 7 := by decide +kernel

/-- AdditionFlags and SubtractionFlags: widths 8 and 16, and the least width 1. -/
theorem test_witness_flag_widths : 0 < 8 ∧ 0 < 16 ∧ 0 < 1 := by decide

theorem test_witness_ConditionsAfterCompare : Subtracts (fun _ => false) 8 Flg.zero 0x80 0x01 0x7F { Flg.zero with o := true, c := true } :=
  ⟨rfl, rfl⟩

/-- Additions, Subtractions, Comparisons, LogicalOperations, CountAbsoluteExtend, Moves, ExchangeNibbleAddress, PushesAndPops: both sizes, the
address registers and memory as operands. -/
theorem test_witness_operands : Memory.wf oneByte.mem = true ∧ (Instr.addG .b (.mem (.abs16 0x400)) (.areg .a0)).wellFormed = true ∧
    (Instr.sbbG .w (.areg .a0) (.areg .a0)).wellFormed = true ∧ (Instr.adcG .b (.areg .a1) (.dreg .r1hR3)).wellFormed = true ∧
    (Instr.subG .w (.areg .a1) (.areg .a0)).wellFormed = true ∧ (Instr.cmpG .b (.areg .a0) (.dreg .r0lR0)).wellFormed = true ∧
    (Instr.andG .b (.dreg .r0lR0) (.areg .a1)).wellFormed = true ∧ (Instr.adcf .w (.areg .a0)).wellFormed = true ∧
    (Instr.neg .b (.mem (.ind .a0))).wellFormed = true ∧ (Instr.notG .w (.areg .a1)).wellFormed = true ∧
    (Instr.abs .b (.dreg .r0lR0)).wellFormed = true ∧ (Instr.movG .b (.areg .a0) (.mem (.abs16 0))).wellFormed = true ∧
    (Instr.movDirToR0L .hh (.dreg .r0lR0)).wellFormed = true ∧ (Instr.movDirFromR0L .hh (.dreg .r0hR1)).wellFormed = true ∧
    (Instr.mova (.dsp8FB 0x80) (.dreg .r0lR0)).wellFormed = true ∧ (Instr.mova (.abs16 0) (.areg .a0)).wellFormed = true ∧
    (Instr.pusha (.dsp16SB 0)).wellFormed = true ∧ (Instr.popG .b (.mem (.ind .a0))).wellFormed = true := by decide +kernel

theorem test_witness_Multiplications : (Instr.mulG .b (.areg .a0) (.dreg .r1lR2)).wellFormed = true ∧
    (Instr.muluG .w (.areg .a0) (.areg .a0)).wellFormed = true ∧ (Instr.mulImm (.w 3) (.dreg .r0hR1)).wellFormed = true ∧
    (Instr.muluImm (.b 3) (.mem (.ind .a1))).wellFormed = true := by decide +kernel

/-- Decimal operands at the ends of the range, and one with a digit above 9. -/
theorem test_witness_DecimalArithmetic : IsBcd (0x99 : Byte) ∧ IsBcd (0x9999 : Word) ∧ ¬ IsBcd (0x0A : Byte) := by
  refine ⟨?_, ?_, ?_⟩ <;> unfold IsBcd <;> decide +kernel

/-- RMPA: ignored, the greatest sum in range, the least sum out of range. -/
theorem test_witness_SumOfProducts :
    base.word .r1hR3 = 0 ∧
    (let s := chain [r3 1, r0 0x7FFE, a0 0x400, a1 0x401, ms 0x400 [1, 1]] base
     s.word .r1hR3 ≠ 0 ∧ outsideSigned 16 (accumulator .b s + (factors .b s).1 * (factors .b s).2) = false) ∧
    (let s := chain [r3 0xFFFF, r0 0x7FFF, a0 0x400, a1 0x401, ms 0x400 [1, 1]] base
     s.word .r1hR3 ≠ 0 ∧ outsideSigned 16 (accumulator .b s + (factors .b s).1 * (factors .b s).2) = true) := by decide +kernel

/-- RotateThroughCarry and ShiftsByImmediate. -/
theorem test_witness_RotateThroughCarry : (Instr.rolc .w (.areg .a0)).wellFormed = true ∧ (Instr.rotImm .b ⟨true, 7⟩ (.dreg .r1hR3)).wellFormed = true := by
  decide +kernel

/-- The counts 0, +8, -8 and +9 for `.B`, with a destination that is not R1H. -/
theorem test_witness_ShiftsByR1H : (Instr.rotR1H .b (.dreg .r1lR2)).wellFormed = true ∧ (base.byte .r1hR3).toInt = 0 ∧
    ((r1h 8 base).byte .r1hR3).toInt = 8 ∧ ((r1h 0xF8 base).byte .r1hR3).toInt = -8 ∧ Size.b.bits = 8 ∧
    Size.b.bits < ((r1h 9 base).byte .r1hR3).toInt.natAbs := by decide +kernel

/-- The counts 0, +16, -16 and -17 of the long shifts. -/
theorem test_witness_LongShifts : (base.byte .r1hR3).toInt = 0 ∧ ((r1h 16 base).byte .r1hR3).toInt.natAbs ≤ 16 ∧
    ((r1h 0xF0 base).byte .r1hR3).toInt = -16 ∧ 16 < ((r1h 0xEF base).byte .r1hR3).toInt.natAbs := by decide +kernel

theorem test_witness_Stores : base.flg.z = false ∧ (flg 4 base).flg.z = true := by decide +kernel

/-- The words of PUSHM lie in writable memory. -/
theorem test_witness_PopmUndoesPushm : let l : RegList := ⟨true, true, true, true, true, true, true, true⟩
    Memory.wf base.mem = true ∧ (∃ t, exec (.pushm l) base = .next t) ∧ ∀ a ∈ Instr.stores base (.pushm l), base.layout.isWritable a = true :=
  ⟨rfl, exists_next (by decide +kernel), all_of_all (by decide +kernel)⟩

theorem test_witness_Jumps : (Instr.jcndShort .pz 0x80).wellFormed = true ∧ (Instr.jcndLong .lt 0x80).wellFormed = true ∧
    (Instr.jmps 18).wellFormed = true ∧ (Instr.jmps 255).wellFormed = true ∧ (Instr.jmpiW (.mem (.dsp20A .a1 0xFFFFF))).wellFormed = true ∧
    (Instr.jmpiA (.mem (.mem (.ind .a0)))).wellFormed = true := by decide +kernel

theorem test_witness_AddAndJump : Memory.wf base.mem = true ∧ (Instr.adjnz .w 0xF (.areg .a0) 0).wellFormed = true ∧
    (Instr.sbjnz .b 8 (.mem (.abs16 0x400)) 0).wellFormed = true := by decide +kernel

/-- The stack of the return-address statements in writable memory. -/
theorem test_witness_ReturnAddressHelpers : Memory.wf base.mem = true ∧ ∀ a, a ∈ returnBelow base.sp → base.layout.isWritable a = true :=
  ⟨rfl, all_of_all (by decide +kernel)⟩

theorem test_witness_Calls : (Instr.jsrs 18).wellFormed = true ∧ (Instr.jsriW (.mem (.mem (.abs16 0)))).wellFormed = true ∧
    (Instr.jsriA (.mem (.dsp20A .a0 0))).wellFormed = true := by decide +kernel

theorem test_witness_ReturnUndoesCall : Memory.wf base.mem = true ∧ Instr.isCall (.jsrA 0xF1000) = true ∧
    (∃ t, exec (.jsrA 0xF1000) base = .next t) ∧ (∀ a ∈ returnBelow base.sp, base.layout.isWritable a = true) ∧
    ∀ a ∈ returnBelow (base.sp + 3), base.layout.inImage a = true :=
  ⟨rfl, rfl, exists_next (by decide +kernel), all_of_all (by decide +kernel), all_of_all (by decide +kernel)⟩

theorem test_witness_StackFrames : Memory.wf base.mem = true ∧ (∃ t, exec (.enter 3) base = .next t) ∧
    (∀ a ∈ wordBelow base.sp, base.layout.isWritable a = true) ∧ (∀ a ∈ returnBelow (base.sp + 3), base.layout.inImage a = true) ∧
    (let s := fb 0x500 base
     ∀ a ∈ bytesFrom (zext20 s.fb) 2 ++ returnBelow (s.fb + 5), s.layout.inImage a = true) :=
  ⟨rfl, exists_next (by decide +kernel), all_of_all (by decide +kernel), all_of_all (by decide +kernel), all_of_all (by decide +kernel)⟩

/-- INTO with O clear and set; BRK with the vector all FFh and not; the numbers 31 and 32 of INT. -/
theorem test_witness_SoftwareInterrupts : Memory.wf base.mem = true ∧ base.flg.o = false ∧ (flg 0x20 base).flg.o = true ∧
    (∀ a ∈ bytesFrom 0xFFFE4 4, (ms 0xFFFE4 [0xFF, 0xFF, 0xFF, 0xFF] base).peek a = 0xFF) ∧
    ¬ (∀ a ∈ bytesFrom 0xFFFE4 4, base.peek a = 0xFF) ∧ decide ((31 : BitVec 6).toNat ≤ 31) = true ∧
    decide ((32 : BitVec 6).toNat ≤ 31) = false :=
  ⟨rfl, rfl, rfl, List.forall_mem_cons.2 ⟨by decide +kernel, List.forall_mem_cons.2 ⟨by decide +kernel, List.forall_mem_cons.2
    ⟨by decide +kernel, List.forall_mem_cons.2 ⟨by decide +kernel, nofun⟩⟩⟩⟩,
    fun h => absurd (h 0xFFFE4 (by decide +kernel)) (by decide +kernel), rfl, rfl⟩

/-- Every hardware interrupt wins somewhere at an open boundary. -/
theorem test_witness_HardwareInterrupts :
    (Memory.wf (nmi base).mem = true ∧ (nmi base).boundaryOpen ∧ (nmi base).winner = some .nmi) ∧
    { base with req := { base.req with dbc := true } }.winner = some .dbc ∧
    { base with req := { base.req with wdt := true } }.winner = some .watchdog ∧
    (chain [request 31 1, accepts true] base).winner = some (.peripheral 31) ∧
    { base with stepReq := true }.winner = some .singleStep ∧
    { base with req := { base.req with addrMatch := [0xF0100] } }.winner = some .addressMatch :=
  ⟨⟨rfl, ⟨rfl, rfl, rfl⟩, by decide +kernel⟩, by decide +kernel, by decide +kernel, by decide +kernel, by decide +kernel, by decide +kernel⟩

/-- HighestPriorityWins: a winner, and none, since level 0 is never acceptable. -/
theorem test_witness_HighestPriorityWins : (nmi base).winner = some .nmi ∧ (chain [request 3 0, accepts true] base).winner = none := by
  decide +kernel

theorem test_witness_Halting : (halted base).boundaryOpen ∧ (halted base).winner = none ∧ (halted base).waiting = true :=
  ⟨⟨rfl, rfl, rfl⟩, by decide +kernel, rfl⟩

theorem test_witness_InterruptEnableTiming :
    (atNop.runsInstr ∧ decode (atNop.fetch atNop.pc fetchLength) = .ok (.nop, List.replicate 7 0) ∧ ∃ t, step atNop = .next t) ∧
    ((nmi base).boundaryOpen ∧ (nmi base).winner = some .nmi ∧ ∃ t, step (nmi base) = .next t) ∧
    (chain [request 31 1, accepts true] base).acceptable 31 = true :=
  ⟨⟨⟨rfl, .inr (.inr ⟨by decide +kernel, rfl⟩)⟩, by decide +kernel, exists_next (by decide +kernel)⟩,
    ⟨⟨rfl, rfl, rfl⟩, by decide +kernel, exists_next (by decide +kernel)⟩, by decide +kernel⟩

/-- The frame of an interrupt on either stack lies in writable memory. -/
theorem test_witness_ReturnUndoesEntry : Memory.wf base.mem = true ∧ (∀ a ∈ frameBelow base.isp, base.layout.isWritable a = true) ∧
    (∀ a ∈ frameBelow (usp 0x600 (flg 0x80 base)).usp, base.layout.isWritable a = true) ∧ ∀ a ∈ frameBelow ((isp 0x7FC base).sp + 4), base.layout.inImage a = true :=
  ⟨rfl, all_of_all (by decide +kernel), all_of_all (by decide +kernel), all_of_all (by decide +kernel)⟩

/-- The task number and the table entry in plain memory. -/
theorem test_witness_TaskContext : let s := m 0x400 1 base
    s.layout.inImage (zext20 0x400) = true ∧ s.layout.inImage (0xF1000 + BitVec.ofNat 20 (2 * (s.peek (zext20 0x400)).toNat)) = true ∧
    s.layout.inImage (0xF1000 + BitVec.ofNat 20 (2 * (s.peek (zext20 0x400)).toNat) + 1) = true := by decide +kernel

/-- The repeat counts 0, 1 and 2. -/
theorem test_witness_StringMoves : Memory.wf base.mem = true ∧ base.word .r1hR3 = 0 ∧ (r3 1 base).word .r1hR3 ≠ 0 ∧
    (r3 1 base).word .r1hR3 = 1 ∧ (r3 2 base).word .r1hR3 ≠ 0 := by decide +kernel

/-- A string of two bytes, or of two words, from 0400h on. -/
theorem test_witness_StringStore : let s := chain [r3 2, a1 0x400] base
    Memory.wf s.mem = true ∧ s.word .r1hR3 ≠ 0 ∧
    ∀ j, j < (s.word .r1hR3).toNat → s.layout.isWritable (zext20 (s.areg .a1 + BitVec.ofNat 16 j)) = true ∧
      s.layout.isWritable (zext20 (s.areg .a1 + BitVec.ofNat 16 (2 * j))) = true ∧
      s.layout.isWritable (zext20 (s.areg .a1 + BitVec.ofNat 16 (2 * j)) + 1) = true := by decide +kernel

end Sys2Proof.Tests
end

section
/-! SUPPORT. What every shared operation leaves of FLG, and from it the frame of the flags for every instruction (R12). The lemmas that
keep all of FLG are named `<operation>_flg` as in the layers above; those that change some flags are named `<operation>_keeps`. -/

namespace Sys2Proof.Machine

/-! ### FLG before and after -/

/-- `g` differs from `f` in no flag outside `l`, and in IPL only where `setsIpl` allows it. -/
structure Flg.KeepsBut (l : List Flag) (setsIpl : Bool) (f g : Flg) : Prop where
  flags : ∀ x, x ∉ l → Flg.flag g x = Flg.flag f x
  ipl : setsIpl = false → g.ipl = f.ipl

theorem Flg.keepsBut_iff (l : List Flag) (k : Bool) (f g : Flg) :
    Flg.KeepsBut l k f g ↔
      (.c ∉ l → g.c = f.c) ∧ (.d ∉ l → g.d = f.d) ∧ (.z ∉ l → g.z = f.z) ∧ (.s ∉ l → g.s = f.s) ∧
      (.b ∉ l → g.b = f.b) ∧ (.o ∉ l → g.o = f.o) ∧ (.i ∉ l → g.i = f.i) ∧ (.u ∉ l → g.u = f.u) ∧
      (k = false → g.ipl = f.ipl) := by
  constructor
  · intro h
    exact ⟨h.flags .c, h.flags .d, h.flags .z, h.flags .s, h.flags .b, h.flags .o, h.flags .i, h.flags .u, h.ipl⟩
  · rintro ⟨hc, hd, hz, hs, hb, ho, hi, hu, hipl⟩
    refine ⟨fun x hx => ?_, hipl⟩
    cases x with
    | c => exact hc hx
    | d => exact hd hx
    | z => exact hz hx
    | s => exact hs hx
    | b => exact hb hx
    | o => exact ho hx
    | i => exact hi hx
    | u => exact hu hx

/-- FLG unchanged is within every allowance. -/
theorem Flg.keepsBut_of_eq {l : List Flag} {k : Bool} {f g : Flg} (h : g = f) : Flg.KeepsBut l k f g :=
  h ▸ ⟨fun _ _ => rfl, fun _ => rfl⟩

/-- An allowance for all flags and IPL asks nothing. -/
theorem Flg.keepsBut_all (f g : Flg) : Flg.KeepsBut allFlags true f g :=
  ⟨fun x hx => absurd (by cases x <;> decide) hx, nofun⟩

/-! The flag columns that the flag tables of R300 to R560 mark together -/

theorem Flg.keepsBut_oszc (f : Flg) (o s z c : Bool) :
    Flg.KeepsBut [.o, .s, .z, .c] false f { f with o := o, s := s, z := z, c := c } := by
  simp [Flg.keepsBut_iff]

theorem Flg.keepsBut_szc (f : Flg) (s z c : Bool) :
    Flg.KeepsBut [.s, .z, .c] false f { f with s := s, z := z, c := c } := by
  simp [Flg.keepsBut_iff]

theorem Flg.keepsBut_sz (f : Flg) (s z : Bool) : Flg.KeepsBut [.s, .z] false f { f with s := s, z := z } := by
  simp [Flg.keepsBut_iff]

theorem Flg.keepsBut_zc (f : Flg) (z c : Bool) : Flg.KeepsBut [.z, .c] false f { f with z := z, c := c } := by
  simp [Flg.keepsBut_iff]

/-- Writing one flag (R524, R525). -/
theorem putFlag_keeps (x : Flag) (v : Bool) (f : Flg) : Flg.KeepsBut [x] false f (putFlag x v f) := by
  cases x <;> simp [Flg.keepsBut_iff, putFlag]

theorem setSZ_keeps {n : Nat} (f : Flg) (v : BitVec n) : Flg.KeepsBut [.s, .z] false f (setSZ f v) :=
  Flg.keepsBut_sz f _ _

/-! ### How an instruction ends -/

/-- Every state that the result answers keeps the FLG of `s` but for the flags `l`, and IPL. -/
def KeepsFlags (l : List Flag) (setsIpl : Bool) (s : State) (r : Result) : Prop :=
  ∀ t, r = .next t → Flg.KeepsBut l setsIpl s.flg t.flg

section
variable {l : List Flag} {k : Bool} {i : Instr} {s u : State}

theorem retireAt_keeps {a : Addr} (h : Flg.KeepsBut l k s.flg u.flg) : KeepsFlags l k s (retireAt i a u) := by
  intro t ht
  obtain ⟨-, rfl⟩ := (retireAt_next i a u t).1 ht
  exact h

theorem retire_keeps (h : Flg.KeepsBut l k s.flg u.flg) : KeepsFlags l k s (retire i u) := retireAt_keeps h

theorem retireAt_of_flg_eq {a : Addr} (h : u.flg = s.flg) : KeepsFlags l k s (retireAt i a u) :=
  retireAt_keeps (Flg.keepsBut_of_eq h)

theorem retire_of_flg_eq (h : u.flg = s.flg) : KeepsFlags l k s (retire i u) := retireAt_of_flg_eq h

end

/-! ### Operations on a destination -/

/-- The operation changes no flag outside `l`, at any width. -/
def Binary.Keeps (l : List Flag) (op : Binary) : Prop :=
  ∀ (n : Nat) (f : Flg) (d x : BitVec n), Flg.KeepsBut l false f (op n f d x).2

/-- The comparison changes no flag outside `l`, at any width. -/
def Compare.Keeps (l : List Flag) (op : Compare) : Prop :=
  ∀ (n : Nat) (f : Flg) (d x : BitVec n), Flg.KeepsBut l false f (op n f d x)

theorem opAdd_keeps : Binary.Keeps [.o, .s, .z, .c] opAdd := fun _ f _ _ => Flg.keepsBut_oszc f _ _ _ _
theorem opAdc_keeps : Binary.Keeps [.o, .s, .z, .c] opAdc := fun _ f _ _ => Flg.keepsBut_oszc f _ _ _ _
theorem opAdcf_keeps : Binary.Keeps [.o, .s, .z, .c] opAdcf := fun _ f _ _ => Flg.keepsBut_oszc f _ _ _ _
theorem opSub_keeps : Binary.Keeps [.o, .s, .z, .c] opSub := fun _ f _ _ => Flg.keepsBut_oszc f _ _ _ _
theorem opSbb_keeps : Binary.Keeps [.o, .s, .z, .c] opSbb := fun _ f _ _ => Flg.keepsBut_oszc f _ _ _ _
theorem opNeg_keeps : Binary.Keeps [.o, .s, .z, .c] opNeg := fun _ f _ _ => Flg.keepsBut_oszc f _ _ _ _
theorem opAbs_keeps (c : Bool) : Binary.Keeps [.o, .s, .z, .c] (opAbs c) := fun _ f _ _ => Flg.keepsBut_oszc f _ _ _ _
theorem opRolc_keeps : Binary.Keeps [.s, .z, .c] opRolc := fun _ f _ _ => Flg.keepsBut_szc f _ _ _
theorem opRorc_keeps : Binary.Keeps [.s, .z, .c] opRorc := fun _ f _ _ => Flg.keepsBut_szc f _ _ _
theorem opAnd_keeps : Binary.Keeps [.s, .z] opAnd := fun _ f _ _ => setSZ_keeps f _
theorem opOr_keeps : Binary.Keeps [.s, .z] opOr := fun _ f _ _ => setSZ_keeps f _
theorem opXor_keeps : Binary.Keeps [.s, .z] opXor := fun _ f _ _ => setSZ_keeps f _
theorem opNot_keeps : Binary.Keeps [.s, .z] opNot := fun _ f _ _ => setSZ_keeps f _
theorem opInc_keeps : Binary.Keeps [.s, .z] opInc := fun _ f _ _ => setSZ_keeps f _
theorem opDec_keeps : Binary.Keeps [.s, .z] opDec := fun _ f _ _ => setSZ_keeps f _
theorem opAddQuiet_keeps : Binary.Keeps [] opAddQuiet := fun _ _ _ _ => Flg.keepsBut_of_eq rfl
theorem opCmp_keeps : Compare.Keeps [.o, .s, .z, .c] opCmp := fun _ f _ _ => Flg.keepsBut_oszc f _ _ _ _
theorem opTst_keeps : Compare.Keeps [.s, .z] opTst := fun _ f _ _ => setSZ_keeps f _

/-- The flags of a `.B` or `.W` shift: O for SHA only (R303, R305, R309). -/
def ShiftKind.flags : ShiftKind → List Flag
  | .sha => [.o, .s, .z, .c]
  | .rot | .shl => [.s, .z, .c]

theorem opShift_keeps (k : ShiftKind) (right : Bool) (m : Nat) : Binary.Keeps k.flags (opShift k right m) := fun _ f _ _ =>
  match k with
  | .sha => Flg.keepsBut_oszc f _ _ _ _
  | .rot | .shl => Flg.keepsBut_szc f _ _ _

theorem opShiftFree_keeps (k : ShiftKind) (v w : Long) : Binary.Keeps k.flags (opShiftFree k v w) := fun _ f _ _ =>
  match k with
  | .sha => Flg.keepsBut_oszc f _ _ _ _
  | .rot | .shl => Flg.keepsBut_szc f _ _ _

section
variable {l : List Flag} {op : Binary} (h : Binary.Keeps l op) (dst : Operand) (s : State)
include h

theorem update8_keeps (x : Byte) : Flg.KeepsBut l false s.flg (update8 op x dst s).flg := by
  cases dst with
  | dreg r => exact h ..
  | areg a => exact h ..
  | mem m => exact h ..

theorem update16_keeps (x : Word) : Flg.KeepsBut l false s.flg (update16 op x dst s).flg := by
  cases dst with
  | dreg r => exact h ..
  | areg a => exact h ..
  | mem m => exact h ..

theorem updateG_keeps (sz : Size) (src : Operand) : Flg.KeepsBut l false s.flg (updateG op sz src dst s).flg := by
  cases sz with
  | b => simpa [updateG] using update8_keeps h dst (readSrc8 s src).2 (readSrc8 s src).1
  | w => simpa [updateG] using update16_keeps h dst (readSrc16 s src).2 (readSrc16 s src).1

theorem updateImm_keeps (imm : Imm) : Flg.KeepsBut l false s.flg (updateImm op imm dst s).flg := by
  cases imm with
  | b v => exact update8_keeps h dst s v
  | w v => exact update16_keeps h dst s v

theorem updateQ_keeps (sz : Size) (imm : BitVec 4) : Flg.KeepsBut l false s.flg (updateQ op sz imm dst s).flg := by
  cases sz with
  | b => exact update8_keeps h dst s _
  | w => exact update16_keeps h dst s _

theorem updateOne_keeps (sz : Size) : Flg.KeepsBut l false s.flg (updateOne op sz dst s).flg := by
  cases sz with
  | b => exact update8_keeps h dst s 0
  | w => exact update16_keeps h dst s 0

end

section
variable {l : List Flag} {op : Compare} (h : Compare.Keeps l op) (dst : Operand) (s : State)
include h

theorem compare8_keeps (x : Byte) : Flg.KeepsBut l false s.flg (compare8 op x dst s).flg := by
  cases dst with
  | dreg r => exact h ..
  | areg a => exact h ..
  | mem m => simpa [compare8] using h 8 (readByte s (s.ea m)).2.flg (readByte s (s.ea m)).1 x

theorem compare16_keeps (x : Word) : Flg.KeepsBut l false s.flg (compare16 op x dst s).flg := by
  cases dst with
  | dreg r => exact h ..
  | areg a => exact h ..
  | mem m => simpa [compare16] using h 16 (read16 s (s.ea m)).2.flg (read16 s (s.ea m)).1 x

theorem compareG_keeps (sz : Size) (src : Operand) : Flg.KeepsBut l false s.flg (compareG op sz src dst s).flg := by
  cases sz with
  | b => simpa [compareG] using compare8_keeps h dst (readSrc8 s src).2 (readSrc8 s src).1
  | w => simpa [compareG] using compare16_keeps h dst (readSrc16 s src).2 (readSrc16 s src).1

theorem compareImm_keeps (imm : Imm) : Flg.KeepsBut l false s.flg (compareImm op imm dst s).flg := by
  cases imm with
  | b v => exact compare8_keeps h dst s v
  | w v => exact compare16_keeps h dst s v

theorem compareQ_keeps (sz : Size) (imm : BitVec 4) : Flg.KeepsBut l false s.flg (compareQ op sz imm dst s).flg := by
  cases sz with
  | b => exact compare8_keeps h dst s _
  | w => exact compare16_keeps h dst s _

end

/-! ### Arithmetic: stack pointer, sign extension, decimal, division -/

theorem addToSp_keeps (v : Word) (s : State) : Flg.KeepsBut [.o, .s, .z, .c] false s.flg (addToSp v s).flg :=
  Flg.keepsBut_oszc s.flg _ _ _ _

theorem extendByte_keeps (dst : Operand) (s : State) : Flg.KeepsBut [.s, .z] false s.flg (extendByte dst s).flg := by
  cases dst with
  | dreg r =>
    cases r with
    | r0lR0 | r1lR2 => exact setSZ_keeps s.flg _
    | r0hR1 | r1hR3 => exact Flg.keepsBut_of_eq rfl
  | areg a => exact Flg.keepsBut_of_eq rfl
  | mem m => exact setSZ_keeps s.flg _

theorem decimalResult_keeps {op : Decimal} {carry : Nat → Int → Bool} {n : Nat} {f : Flg} {d x : BitVec n} {v : BitVec n × Flg}
    (h : decimalResult op carry f d x = some v) : Flg.KeepsBut [.s, .z, .c] false f v.2 := by
  unfold decimalResult at h
  split at h
  · obtain rfl := Option.some.inj h
    exact Flg.keepsBut_szc f _ _ _
  · cases h

theorem decimal8_keeps (op : Decimal) (carry : Nat → Int → Bool) (x : Byte) (s : State) :
    Flg.KeepsBut [.s, .z, .c] false s.flg (decimal8 op carry x s).flg := by
  unfold decimal8
  split
  · next h => exact decimalResult_keeps h
  · exact Flg.keepsBut_szc s.flg _ _ _

theorem decimal16_keeps (op : Decimal) (carry : Nat → Int → Bool) (x : Word) (s : State) :
    Flg.KeepsBut [.s, .z, .c] false s.flg (decimal16 op carry x s).flg := by
  unfold decimal16
  split
  · next h => exact decimalResult_keeps h
  · exact Flg.keepsBut_szc s.flg _ _ _

theorem decimalReg_keeps (op : Decimal) (carry : Nat → Int → Bool) (sz : Size) (s : State) :
    Flg.KeepsBut [.s, .z, .c] false s.flg (decimalReg op carry sz s).flg := by
  cases sz with
  | b => exact decimal8_keeps ..
  | w => exact decimal16_keeps ..

theorem decimalImm_keeps (op : Decimal) (carry : Nat → Int → Bool) (imm : Imm) (s : State) :
    Flg.KeepsBut [.s, .z, .c] false s.flg (decimalImm op carry imm s).flg := by
  cases imm with
  | b v => exact decimal8_keeps ..
  | w v => exact decimal16_keeps ..

theorem divide8_keeps (k : DivKind) (x : Byte) (s : State) : Flg.KeepsBut [.o] false s.flg (divide8 k x s).flg := by
  unfold divide8
  split
  · exact putFlag_keeps .o false s.flg
  · exact putFlag_keeps .o true s.flg

theorem divide16_keeps (k : DivKind) (x : Word) (s : State) : Flg.KeepsBut [.o] false s.flg (divide16 k x s).flg := by
  unfold divide16
  split
  · exact putFlag_keeps .o false s.flg
  · exact putFlag_keeps .o true s.flg

theorem divideG_keeps (k : DivKind) (sz : Size) (src : Operand) (s : State) :
    Flg.KeepsBut [.o] false s.flg (divideG k sz src s).flg := by
  cases sz with
  | b => simpa [divideG] using divide8_keeps k (readSrc8 s src).1 (readSrc8 s src).2
  | w => simpa [divideG] using divide16_keeps k (readSrc16 s src).1 (readSrc16 s src).2

theorem divideImm_keeps (k : DivKind) (imm : Imm) (s : State) : Flg.KeepsBut [.o] false s.flg (divideImm k imm s).flg := by
  cases imm with
  | b v => exact divide8_keeps ..
  | w v => exact divide16_keeps ..

/-! ### Products: no flag but O of RMPA (R407, R412) -/

@[simp] theorem multiply8_flg (signed : Bool) (x : Byte) (dst : Operand) (s : State) : (multiply8 signed x dst s).flg = s.flg := by
  cases dst with
  | dreg r => cases r <;> simp [multiply8]
  | areg a => simp [multiply8]
  | mem m => simp [multiply8]

@[simp] theorem multiply16_flg (signed : Bool) (x : Word) (dst : Operand) (s : State) : (multiply16 signed x dst s).flg = s.flg := by
  cases dst with
  | dreg r => cases r <;> simp [multiply16]
  | areg a => cases a <;> simp [multiply16]
  | mem m => simp [multiply16]

@[simp] theorem multiplyG_flg (signed : Bool) (sz : Size) (src dst : Operand) (s : State) :
    (multiplyG signed sz src dst s).flg = s.flg := by
  cases sz <;> simp [multiplyG]

@[simp] theorem multiplyImm_flg (signed : Bool) (imm : Imm) (dst : Operand) (s : State) :
    (multiplyImm signed imm dst s).flg = s.flg := by
  cases imm <;> simp [multiplyImm]

@[simp] theorem rmpaSum_snd_flg (sz : Size) (s : State) : (rmpaSum sz s).2.flg = s.flg := by
  cases sz <;> simp [rmpaSum]

@[simp] theorem setAccumulator_flg (sz : Size) (acc : Int) (s : State) : (setAccumulator sz acc s).flg = s.flg := by
  cases sz <;> simp [setAccumulator]

theorem execRmpa_keeps (sz : Size) (s : State) :
    KeepsFlags (if s.word .r1hR3 = 0 then [] else [.o]) false s (execRmpa sz s) := by
  unfold execRmpa
  split
  · exact retire_of_flg_eq rfl
  · dsimp only
    split
    · split
      · exact retire_keeps (putFlag_keeps .o false s.flg)
      · exact retireAt_of_flg_eq (by simp)
    · exact retire_keeps (putFlag_keeps .o true s.flg)

/-! ### Shifts -/

/-- The count in R1H is 0 exactly if the byte is 0 (R300). -/
theorem toInt_eq_zero_iff (x : Byte) : x.toInt = 0 ↔ x = 0 := by
  rw [← BitVec.toInt_inj]; simp

theorem shiftR1H_keeps (k : ShiftKind) (sz : Size) (dst : Operand) (s : State) :
    Flg.KeepsBut (if s.byte .r1hR3 = 0 then [] else k.flags) false s.flg (shiftR1H k sz dst s).flg := by
  simp only [shiftR1H, toInt_eq_zero_iff]
  split
  · exact Flg.keepsBut_of_eq rfl
  · split
    · exact updateOne_keeps (opShift_keeps k _ _) dst s sz
    · exact updateOne_keeps (opShiftFree_keeps k _ _) dst (draw (draw s).2).2 sz

theorem shiftLongImm_keeps (k : ShiftKind) (p : Pair) (c : ShiftCount) (s : State) :
    Flg.KeepsBut [.s, .z, .c] false s.flg (shiftLongImm k p c s).flg :=
  Flg.keepsBut_szc s.flg _ _ _

theorem shiftLongR1H_keeps (k : ShiftKind) (p : Pair) (s : State) :
    Flg.KeepsBut (if s.byte .r1hR3 = 0 then [] else [.s, .z, .c]) false s.flg (shiftLongR1H k p s).flg := by
  simp only [shiftLongR1H, toInt_eq_zero_iff]
  split
  · exact Flg.keepsBut_of_eq rfl
  · split <;> exact Flg.keepsBut_szc s.flg _ _ _

/-! ### Bits -/

@[simp] theorem readBit_snd_flg (s : State) (p : BitPlace) : (readBit s p).2.flg = s.flg := by
  cases p <;> simp [readBit]

@[simp] theorem updateBit_flg (f : Bool → Bool) (p : BitPlace) (s : State) : (updateBit f p s).flg = s.flg := by
  cases p <;> simp [updateBit]

theorem combineBit_keeps (f : Bool → Bool → Bool) (p : BitPlace) (s : State) :
    Flg.KeepsBut [.c] false s.flg (combineBit f p s).flg :=
  putFlag_keeps .c _ s.flg

theorem testBit_keeps (c : Bool → Bool) (p : BitPlace) (s : State) : Flg.KeepsBut [.z, .c] false s.flg (testBit c p s).flg :=
  Flg.keepsBut_zc s.flg _ _

theorem testAndPut_keeps (v : Bool) (p : BitPlace) (s : State) : Flg.KeepsBut [.z, .c] false s.flg (testAndPut v p s).flg :=
  Flg.keepsBut_zc s.flg _ _

/-! ### Transfers -/

theorem move8_keeps (x : Byte) (dst : Operand) (s : State) : Flg.KeepsBut [.s, .z] false s.flg (move8 x dst s).flg := by
  cases dst with
  | dreg r => exact setSZ_keeps s.flg _
  | areg a => exact setSZ_keeps s.flg _
  | mem m => exact setSZ_keeps s.flg _

theorem move16_keeps (x : Word) (dst : Operand) (s : State) : Flg.KeepsBut [.s, .z] false s.flg (move16 x dst s).flg :=
  setSZ_keeps s.flg _

theorem moveG_keeps (sz : Size) (src dst : Operand) (s : State) : Flg.KeepsBut [.s, .z] false s.flg (moveG sz src dst s).flg := by
  cases sz with
  | b => simpa [moveG] using move8_keeps (readSrc8 s src).1 dst (readSrc8 s src).2
  | w => simpa [moveG] using move16_keeps (readSrc16 s src).1 dst (readSrc16 s src).2

theorem moveFrom_keeps (sz : Size) (a : Addr) (dst : Operand) (s : State) :
    Flg.KeepsBut [.s, .z] false s.flg (moveFrom sz a dst s).flg := by
  cases sz with
  | b => simpa [moveFrom] using move8_keeps (readByte s a).1 dst (readByte s a).2
  | w => simpa [moveFrom] using move16_keeps (read16 s a).1 dst (read16 s a).2

theorem moveImm_keeps (imm : Imm) (dst : Operand) (s : State) : Flg.KeepsBut [.s, .z] false s.flg (moveImm imm dst s).flg := by
  cases imm with
  | b v => exact move8_keeps ..
  | w v => exact move16_keeps ..

theorem moveToSp_keeps (sz : Size) (src : Operand) (d : Byte) (s : State) :
    Flg.KeepsBut [.s, .z] false s.flg (moveToSp sz src d s).flg := by
  cases sz with
  | b => exact setSZ_keeps s.flg _
  | w => exact setSZ_keeps s.flg _

theorem storeExtended_keeps (sz : Size) (src : Operand) (a : Addr) (s : State) :
    Flg.KeepsBut [.s, .z] false s.flg (storeExtended sz src a s).flg := by
  cases sz with
  | b => cases src <;> exact setSZ_keeps s.flg _
  | w => exact setSZ_keeps s.flg _

@[simp] theorem pushOperand_flg (sz : Size) (src : Operand) (s : State) : (pushOperand sz src s).flg = s.flg := by
  cases sz <;> simp [pushOperand]

@[simp] theorem popOperand_flg (sz : Size) (dst : Operand) (s : State) : (popOperand sz dst s).flg = s.flg := by
  cases sz <;> simp [popOperand]

@[simp] theorem exchange_flg (sz : Size) (r : DReg) (dst : Operand) (s : State) : (exchange sz r dst s).flg = s.flg := by
  cases sz <;> simp [exchange]

/-! ### Jumps -/

@[simp] theorem specialPageTarget_snd_flg (s : State) (n : Byte) : (specialPageTarget s n).2.flg = s.flg := by
  simp [specialPageTarget]

@[simp] theorem readIndW_snd_flg (s : State) (x : IndW) : (readIndW s x).2.flg = s.flg := by
  cases x <;> simp [readIndW]

@[simp] theorem readIndA_snd_flg (s : State) (x : IndA) : (readIndA s x).2.flg = s.flg := by
  cases x <;> simp [readIndA]

/-! ### Strings -/

theorem endIteration_of_flg_eq {l : List Flag} {i : Instr} {s t : State} (h : t.flg = s.flg) :
    KeepsFlags l false s (endIteration i s t) := by
  unfold endIteration
  dsimp only
  split
  · exact retire_of_flg_eq (by simpa using h)
  · exact retireAt_of_flg_eq (by simpa using h)

@[simp] theorem copyElement_flg (sz : Size) (s : State) : (copyElement sz s).flg = s.flg := by
  cases sz <;> simp [copyElement]

theorem execSmovf_keeps (sz : Size) (s : State) : KeepsFlags [] false s (execSmovf sz s) := by
  unfold execSmovf
  split
  · exact retire_of_flg_eq rfl
  · exact endIteration_of_flg_eq (by simp only [setAreg_flg]; split <;> simp)

theorem execSmovb_keeps (sz : Size) (s : State) : KeepsFlags [] false s (execSmovb sz s) := by
  unfold execSmovb
  split
  · exact retire_of_flg_eq rfl
  · exact endIteration_of_flg_eq (by simp only [setAreg_flg]; split <;> simp)

theorem execSstr_keeps (sz : Size) (s : State) : KeepsFlags [] false s (execSstr sz s) := by
  unfold execSstr
  split
  · exact retire_of_flg_eq rfl
  · exact endIteration_of_flg_eq (by cases sz <;> simp)

/-! ### Control registers and software interrupts -/

/-- Only FLG holds flags (R530). -/
theorem setCreg_keeps (c : CReg) (v : Word) (s : State) :
    Flg.KeepsBut (CReg.flags c) (c == .flg) s.flg (s.setCreg c v).flg := by
  cases c with
  | flg => exact Flg.keepsBut_all ..
  | sp => exact Flg.keepsBut_of_eq (setSp_flg s v)
  | fb => exact Flg.keepsBut_of_eq (setFb_flg s v)
  | intbl | intbh | isp | sb => exact Flg.keepsBut_of_eq rfl

theorem execLdc_keeps (c : CReg) (src : Operand) (s : State) :
    KeepsFlags (CReg.flags c) (c == .flg) s (execLdc c src s) :=
  retire_keeps (by simpa using setCreg_keeps c (readSrc16 s src).1 (readSrc16 s src).2)

theorem execPopc_keeps (c : CReg) (s : State) : KeepsFlags (CReg.flags c) (c == .flg) s (execPopc c s) := by
  apply retire_keeps
  rw [inhibit_flg]
  split
  · exact Flg.keepsBut_of_eq (by simp)
  · simpa using setCreg_keeps c (read16 s (zext20 s.sp)).1 ((read16 s (zext20 s.sp)).2.setSp (s.sp + 2))

@[simp] theorem brkVector_snd_flg (s : State) : (brkVector s).2.flg = s.flg := by
  simp [brkVector]

/-- A software interrupt clears I, D and, if asked, U, and does not touch IPL (R520, R620). -/
theorem softwareInterrupt_keeps (i : Instr) (vec : Addr) (clearU : Bool) (s : State) :
    KeepsFlags (if clearU then [.i, .d, .u] else [.i, .d]) false s (softwareInterrupt i vec clearU s) := by
  apply retireAt_keeps
  rw [interruptSequence_flg]
  cases clearU <;> simp [Flg.keepsBut_iff]

theorem execInto_keeps (s : State) : KeepsFlags (if s.flg.o then [.i, .d, .u] else []) false s (execInto s) := by
  unfold execInto
  split
  · exact softwareInterrupt_keeps .into _ true s
  · exact retire_of_flg_eq rfl

theorem execBrk_keeps (s : State) : KeepsFlags [.i, .d, .u] false s (execBrk s) := by
  have h := softwareInterrupt_keeps .brk (brkVector s).1 true (brkVector s).2
  rw [KeepsFlags, brkVector_snd_flg] at h
  exact h

theorem execInt_keeps (n : BitVec 6) (s : State) :
    KeepsFlags (if n.toNat ≤ 31 then [.i, .d, .u] else [.i, .d]) false s (execInt n s) := by
  have h := softwareInterrupt_keeps (.int n) (variableVector s n.toNat) (decide (n.toNat ≤ 31)) s
  simp only [decide_eq_true_eq] at h
  exact h

/-! ### Every instruction -/

/-- R12, instruction by instruction: no flag changes outside the columns that the flag table marks. -/
theorem exec_keepsFlags (i : Instr) (s : State) : KeepsFlags (Instr.flags s i) (Instr.setsIpl i) s (exec i s) := by
  cases i with dsimp only [exec]
  -- O, S, Z, C: addition, subtraction, comparison, SHA
  | addSSrcHalf | addG => exact retire_keeps (updateG_keeps opAdd_keeps ..)
  | subSSrcHalf | subG => exact retire_keeps (updateG_keeps opSub_keeps ..)
  | adcG => exact retire_keeps (updateG_keeps opAdc_keeps ..)
  | sbbG => exact retire_keeps (updateG_keeps opSbb_keeps ..)
  | addSImm => exact retire_keeps (update8_keeps opAdd_keeps ..)
  | subSImm => exact retire_keeps (update8_keeps opSub_keeps ..)
  | addImm => exact retire_keeps (updateImm_keeps opAdd_keeps ..)
  | subImm => exact retire_keeps (updateImm_keeps opSub_keeps ..)
  | adcImm => exact retire_keeps (updateImm_keeps opAdc_keeps ..)
  | sbbImm => exact retire_keeps (updateImm_keeps opSbb_keeps ..)
  | addQ => exact retire_keeps (updateQ_keeps opAdd_keeps ..)
  | neg => exact retire_keeps (updateOne_keeps opNeg_keeps ..)
  | adcf => exact retire_keeps (updateOne_keeps opAdcf_keeps ..)
  | abs sz dst => exact retire_keeps (updateOne_keeps (opAbs_keeps _) dst (draw s).2 sz)
  | addQSp => exact retire_keeps (addToSp_keeps ..)
  | addImmSp imm => cases imm <;> exact retire_keeps (addToSp_keeps ..)
  | cmpSSrcHalf | cmpG => exact retire_keeps (compareG_keeps opCmp_keeps ..)
  | cmpSImm => exact retire_keeps (compare8_keeps opCmp_keeps ..)
  | cmpImm => exact retire_keeps (compareImm_keeps opCmp_keeps ..)
  | cmpQ => exact retire_keeps (compareQ_keeps opCmp_keeps ..)
  | shaImm => exact retire_keeps (updateOne_keeps (opShift_keeps .sha _ _) ..)
  | shaR1H => exact retire_keeps (shiftR1H_keeps .sha ..)
  -- S, Z, C: the other shifts, decimal arithmetic
  | rotImm => exact retire_keeps (updateOne_keeps (opShift_keeps .rot _ _) ..)
  | shlImm => exact retire_keeps (updateOne_keeps (opShift_keeps .shl _ _) ..)
  | rotR1H => exact retire_keeps (shiftR1H_keeps .rot ..)
  | shlR1H => exact retire_keeps (shiftR1H_keeps .shl ..)
  | rolc => exact retire_keeps (updateOne_keeps opRolc_keeps ..)
  | rorc => exact retire_keeps (updateOne_keeps opRorc_keeps ..)
  | shlLImm | shaLImm => exact retire_keeps (shiftLongImm_keeps ..)
  | shlLR1H | shaLR1H => exact retire_keeps (shiftLongR1H_keeps ..)
  | daddReg | dsubReg | dadcReg | dsbbReg => exact retire_keeps (decimalReg_keeps ..)
  | daddImm | dsubImm | dadcImm | dsbbImm => exact retire_keeps (decimalImm_keeps ..)
  -- S, Z: logic, counting, moves
  | andSSrcHalf | andG => exact retire_keeps (updateG_keeps opAnd_keeps ..)
  | orSSrcHalf | orG => exact retire_keeps (updateG_keeps opOr_keeps ..)
  | xorG => exact retire_keeps (updateG_keeps opXor_keeps ..)
  | andSImm => exact retire_keeps (update8_keeps opAnd_keeps ..)
  | orSImm => exact retire_keeps (update8_keeps opOr_keeps ..)
  | andImm => exact retire_keeps (updateImm_keeps opAnd_keeps ..)
  | orImm => exact retire_keeps (updateImm_keeps opOr_keeps ..)
  | xorImm => exact retire_keeps (updateImm_keeps opXor_keeps ..)
  | notS | notG => exact retire_keeps (updateOne_keeps opNot_keeps ..)
  | tstG => exact retire_keeps (compareG_keeps opTst_keeps ..)
  | tstImm => exact retire_keeps (compareImm_keeps opTst_keeps ..)
  | incW | incB => exact retire_keeps (updateOne_keeps opInc_keeps ..)
  | decW | decB => exact retire_keeps (updateOne_keeps opDec_keeps ..)
  | movSHalfDest | movBSImmA | movZ | movSImm => exact retire_keeps (move8_keeps ..)
  | movWSImmA => exact retire_keeps (move16_keeps ..)
  | movSSrcHalf | movSSrcA | movG => exact retire_keeps (moveG_keeps ..)
  | movGImm => exact retire_keeps (moveImm_keeps ..)
  | movQ sz imm dst =>
    cases sz with
    | b => exact retire_keeps (move8_keeps ..)
    | w => exact retire_keeps (move16_keeps ..)
  | ldeAbs20 | ldeDsp20 | ldeA1A0 | movFromSp => exact retire_keeps (moveFrom_keeps ..)
  | steAbs20 | steDsp20 | steA1A0 => exact retire_keeps (storeExtended_keeps ..)
  | movToSp => exact retire_keeps (moveToSp_keeps ..)
  | extsB => exact retire_keeps (extendByte_keeps ..)
  -- O: division, sum of products
  | divx | divu | div => exact retire_keeps (divideG_keeps ..)
  | divuImm | divImm | divxImm => exact retire_keeps (divideImm_keeps ..)
  | rmpa => exact execRmpa_keeps _ s
  -- Z and C, or C: bits
  | btstS | bntst | btstG => exact retire_keeps (testBit_keeps ..)
  | btstc | btsts => exact retire_keeps (testAndPut_keeps ..)
  | band | bnand | bor | bnor | bxor | bnxor => exact retire_keeps (combineBit_keeps ..)
  | bmcndC c => exact retire_keeps (putFlag_keeps .c _ s.flg)
  -- I, D, U: software interrupts
  | brk => exact execBrk_keeps s
  | und => exact softwareInterrupt_keeps .und _ true s
  | into => exact execInto_keeps s
  | int n => exact execInt_keeps n s
  -- FLG itself
  | reit => exact retireAt_keeps (Flg.keepsBut_all ..)
  | ldc c src => exact execLdc_keeps c src s
  | ldcImm c imm => exact retire_keeps (setCreg_keeps c imm s)
  | popc c => exact execPopc_keeps c s
  | fset x | fclr x => exact retire_keeps (putFlag_keeps x _ s.flg)
  | ldipl => exact retire_keeps ⟨fun x _ => by cases x <;> rfl, nofun⟩
  -- no flag
  | nop | wait => exact retire_of_flg_eq rfl
  | bclrS | bsetS | bnotS | bmcnd | bclrG | bsetG | bnotG => exact retire_of_flg_eq (updateBit_flg ..)
  | jmpS | jcndShort | jcndLong | jmpW | jmpA | jmpB => exact retireAt_of_flg_eq rfl
  | jmps | jsrs | rts | jsrW | jsrA | jmpiA | jsriA | jmpiW | jsriW => exact retireAt_of_flg_eq (by simp)
  | adjnz | sbjnz => exact retireAt_keeps (updateQ_keeps opAddQuiet_keeps ..)
  | pushBS | pushWS | pushG => exact retire_of_flg_eq (pushOperand_flg ..)
  | popBS | popWS | popG => exact retire_of_flg_eq (popOperand_flg ..)
  | pusha | pushc => exact retire_of_flg_eq (push16_flg ..)
  | pushImm imm => cases imm <;> exact retire_of_flg_eq (by simp)
  | stz | stnz => exact retire_of_flg_eq (by split <;> simp)
  | stzx | movDirFromR0L | movDirToR0L | pushm | popm | ldctx | stctx | enter => exact retire_of_flg_eq (by simp)
  | muluG | mulG => exact retire_of_flg_eq (multiplyG_flg ..)
  | muluImm | mulImm => exact retire_of_flg_eq (multiplyImm_flg ..)
  | stc => exact retire_of_flg_eq (writeDest16_flg ..)
  | stcPc dst => cases dst <;> exact retire_of_flg_eq (by simp)
  | xchg => exact retire_of_flg_eq (exchange_flg ..)
  | mova m dst => cases dst <;> exact retire_of_flg_eq (by simp)
  | smovf => exact execSmovf_keeps _ s
  | smovb => exact execSmovb_keeps _ s
  | sstr => exact execSstr_keeps _ s
  | exitd => exact retireAt_of_flg_eq (by simp)
  | extsW => exact retire_of_flg_eq (setPair_flg ..)
  | ldintb => exact retire_of_flg_eq rfl

/-- Settles O13: each instruction's case of `exec_keepsFlags`, read off field by field. -/
theorem flagsKept : Obligations.FlagsKept := by
  intro i s t h
  obtain ⟨hflags, hipl⟩ := exec_keepsFlags i s t h
  exact ⟨hflags, hipl⟩

end Sys2Proof.Machine
end


section
/-! SUPPORT. What every shared operation leaves of the registers and of the state of acceptance, and from it the frame of the registers (R26,
R27) and of the control state (R46, R48, R49, R71, R673) for every instruction; and the state after reset. The lemmas are named
`<operation>_framed`: an operation on a framed state `u` keeps the frame, provided that (`hb`) the frame's bank is the selected one and (`hl`) the
registers that the operation writes are allowed. -/

namespace Sys2Proof.Machine

/-! ### Registers before and after -/

/-- Everything that `State.reg` reads. -/
def State.regFile (s : State) : Bank × Bank × Word × Word × Word × Addr :=
  (s.bank0, s.bank1, s.sb, s.usp, s.isp, s.intb)

theorem bankOf_of_regFile_eq {s t : State} (h : t.regFile = s.regFile) (b : Bool) : t.bankOf b = s.bankOf b := by
  simp only [State.regFile, Prod.mk.injEq] at h
  simp [State.bankOf, h]

theorem reg_of_regFile_eq {s t : State} (h : t.regFile = s.regFile) (b : Bool) (r : Reg) : t.reg b r = s.reg b r := by
  have hbank := bankOf_of_regFile_eq h b
  simp only [State.regFile, Prod.mk.injEq] at h
  cases r <;> simp [State.reg, hbank, h]

/-- `t` has every register of `s` outside `l`, and the whole bank that is not `b` (R27). -/
structure KeepsRegs (b : Bool) (l : List Reg) (s t : State) : Prop where
  regs : ∀ r, r ∉ l → t.reg b r = s.reg b r
  otherBank : t.bankOf (!b) = s.bankOf (!b)

theorem keepsRegs_of_eq {b : Bool} {l : List Reg} {s t : State} (h : t.regFile = s.regFile) : KeepsRegs b l s t :=
  ⟨fun r _ => reg_of_regFile_eq h b r, bankOf_of_regFile_eq h _⟩

theorem KeepsRegs.trans {b : Bool} {l : List Reg} {s u t : State} (h : KeepsRegs b l s u) (h' : KeepsRegs b l u t) : KeepsRegs b l s t :=
  ⟨fun r hr => (h'.regs r hr).trans (h.regs r hr), h'.otherBank.trans h.otherBank⟩

/-- `k'` has every register of the bank `k` outside `l`. -/
structure Bank.KeepsBut (l : List Reg) (k k' : Bank) : Prop where
  r0l : .r0l ∉ l → k'.r0.toNat % 256 = k.r0.toNat % 256
  r0h : .r0h ∉ l → k'.r0.toNat / 256 = k.r0.toNat / 256
  r1l : .r1l ∉ l → k'.r1.toNat % 256 = k.r1.toNat % 256
  r1h : .r1h ∉ l → k'.r1.toNat / 256 = k.r1.toNat / 256
  r2 : .r2 ∉ l → k'.r2 = k.r2
  r3 : .r3 ∉ l → k'.r3 = k.r3
  a0 : .a0 ∉ l → k'.a0 = k.a0
  a1 : .a1 ∉ l → k'.a1 = k.a1
  fb : .fb ∉ l → k'.fb = k.fb

theorem bankOf_selected {s : State} {b : Bool} (hb : s.flg.b = b) : s.bankOf b = s.bank := by
  subst hb; rfl

theorem setBank_bankOf_selected {s : State} {b : Bool} (hb : s.flg.b = b) (k : Bank) : (s.setBank k).bankOf b = k := by
  rw [bankOf_selected (by simpa using hb), setBank_bank]

theorem setBank_bankOf_other {s : State} {b : Bool} (hb : s.flg.b = b) (k : Bank) : (s.setBank k).bankOf (!b) = s.bankOf (!b) := by
  subst hb
  unfold State.bankOf State.setBank
  cases s.flg.b <;> rfl

/-- Replacing the selected bank by one that agrees with it outside `l`. -/
theorem setBank_keepsRegs {s : State} {b : Bool} {l : List Reg} {k : Bank} (hb : s.flg.b = b) (hk : Bank.KeepsBut l s.bank k) :
    KeepsRegs b l s (s.setBank k) where
  regs r hr := by
    cases r with simp only [State.reg, setBank_bankOf_selected hb, bankOf_selected hb, setBank_sb, setBank_usp, setBank_isp, setBank_intb]
    | r0l => exact hk.r0l hr
    | r0h => exact hk.r0h hr
    | r1l => exact hk.r1l hr
    | r1h => exact hk.r1h hr
    | r2 => rw [hk.r2 hr]
    | r3 => rw [hk.r3 hr]
    | a0 => rw [hk.a0 hr]
    | a1 => rw [hk.a1 hr]
    | fb => rw [hk.fb hr]
  otherBank := setBank_bankOf_other hb k

theorem setLow_toNat_div (w : Word) (v : Byte) : (hiByte w ++ v).toNat / 256 = w.toNat / 256 := by
  have hw := w.isLt
  have hv := v.isLt
  rw [BitVec.toNat_append, ← Nat.shiftLeft_add_eq_or_of_lt hv, Nat.shiftLeft_eq, hiByte, BitVec.extractLsb'_toNat, Nat.shiftRight_eq_div_pow]
  omega

theorem setHigh_toNat_mod (w : Word) (v : Byte) : (v ++ loByte w).toNat % 256 = w.toNat % 256 := by
  have hl := (loByte w).isLt
  rw [BitVec.toNat_append, ← Nat.shiftLeft_add_eq_or_of_lt hl, Nat.shiftLeft_eq, loByte, BitVec.extractLsb'_toNat, Nat.shiftRight_zero]
  omega

theorem setIntbLow_toNat_div (a : Addr) (v : Word) : (a.extractLsb' 16 4 ++ v).toNat / 65536 = a.toNat / 65536 := by
  have ha := a.isLt
  have hv := v.isLt
  rw [BitVec.toNat_append, ← Nat.shiftLeft_add_eq_or_of_lt hv, Nat.shiftLeft_eq, BitVec.extractLsb'_toNat, Nat.shiftRight_eq_div_pow]
  omega

theorem setIntbHigh_toNat_mod (a : Addr) (v : BitVec 4) : (v ++ a.extractLsb' 0 16).toNat % 65536 = a.toNat % 65536 := by
  have hl := (a.extractLsb' 0 16).isLt
  rw [BitVec.toNat_append, ← Nat.shiftLeft_add_eq_or_of_lt hl, Nat.shiftLeft_eq, BitVec.extractLsb'_toNat, Nat.shiftRight_zero]
  omega

/-! ### Control before and after -/

/-- `q'` is `q` with perhaps fewer request bits; levels and match addresses are open (R46, log 5). -/
structure Requests.ClearedFrom (q q' : Requests) : Prop where
  nmi : q'.nmi = q.nmi
  dbc : q'.dbc = q.dbc
  wdt : q'.wdt = q.wdt
  ir : ∀ n, q'.ir.getLsbD n = true → q.ir.getLsbD n = true

theorem Requests.clearedFrom_of_eq {q q' : Requests} (h : q' = q) : Requests.ClearedFrom q q' :=
  h ▸ ⟨rfl, rfl, rfl, fun _ => id⟩

theorem Requests.ClearedFrom.trans {q r q' : Requests} (h : Requests.ClearedFrom q r) (h' : Requests.ClearedFrom r q') :
    Requests.ClearedFrom q q' :=
  ⟨h'.nmi.trans h.nmi, h'.dbc.trans h.dbc, h'.wdt.trans h.wdt, fun n hn => h.ir n (h'.ir n hn)⟩

theorem cancelWinner_clears (s : State) : Requests.ClearedFrom s.req s.cancelWinner.req := by
  unfold State.cancelWinner
  split
  · exact ⟨rfl, rfl, rfl, fun n hn => by simp [State.clearIr] at hn; exact hn.1⟩
  · exact Requests.clearedFrom_of_eq rfl

theorem deviceAccess_clears (s : State) (x : PlatformAccess) : Requests.ClearedFrom s.req (s.deviceAccess x).req :=
  ⟨rfl, rfl, rfl, fun n hn => by simp [State.deviceAccess] at hn; exact hn.1⟩

/-- The state that decides what the coming boundary does, with the inputs, the platform's parameters and the platform's log. -/
def State.control (s : State) : Bool × Bool × Bool × Bool × Bool × Requests × Layout × List PlatformAccess :=
  (s.waiting, s.inhibitOnce, s.boundaryTaken, s.stepReq, s.resetReq, s.req, s.layout, s.platformLog)

/-- From `s` to `t` the control state changes by accesses that the platform sees; beside that the CPU halts if `halts`, and the one-shot inhibit is
set if `inhibits`. -/
structure KeepsControl (halts inhibits : Bool) (s t : State) : Prop where
  waiting : t.waiting = (s.waiting || halts)
  inhibitOnce : t.inhibitOnce = (s.inhibitOnce || inhibits)
  boundaryTaken : t.boundaryTaken = s.boundaryTaken
  stepReq : t.stepReq = s.stepReq
  resetReq : t.resetReq = s.resetReq
  layout : t.layout = s.layout
  requests : Requests.ClearedFrom s.req t.req
  log : s.platformLog <:+ t.platformLog
  unseen : t.platformLog = s.platformLog → t.req = s.req

theorem keepsControl_of_eq {s t : State} (h : t.control = s.control) : KeepsControl false false s t := by
  simp only [State.control, Prod.mk.injEq] at h
  obtain ⟨hw, hi, hb, hs, hr, hq, hl, hp⟩ := h
  exact ⟨by simp [hw], by simp [hi], hb, hs, hr, hl, Requests.clearedFrom_of_eq hq, hp ▸ List.suffix_refl _, fun _ => hq⟩

theorem KeepsControl.trans {w i : Bool} {s u t : State} (h : KeepsControl w i s u) (h' : KeepsControl false false u t) :
    KeepsControl w i s t where
  waiting := by simp [h'.waiting, h.waiting]
  inhibitOnce := by simp [h'.inhibitOnce, h.inhibitOnce]
  boundaryTaken := h'.boundaryTaken.trans h.boundaryTaken
  stepReq := h'.stepReq.trans h.stepReq
  resetReq := h'.resetReq.trans h.resetReq
  layout := h'.layout.trans h.layout
  requests := h.requests.trans h'.requests
  log := h.log.trans h'.log
  unseen ht := by
    have hu : u.platformLog = s.platformLog := (ht ▸ h'.log : u.platformLog <:+ s.platformLog).eq_of_length_le h.log.length_le
    exact (h'.unseen (ht.trans hu.symm)).trans (h.unseen hu)

/-- An access that the platform sees is logged, so the log has grown. -/
theorem deviceAccess_keepsControl (s : State) (x : PlatformAccess) : KeepsControl false false s (s.deviceAccess x) where
  waiting := by simp
  inhibitOnce := by simp
  boundaryTaken := rfl
  stepReq := rfl
  resetReq := rfl
  layout := rfl
  requests := deviceAccess_clears s x
  log := List.suffix_cons x _
  unseen h := absurd h (List.cons_ne_self x _)

/-- The read of 00000h, which also cancels a request (R71, R623). -/
theorem cancelWinner_deviceAccess_keepsControl (s : State) (x : PlatformAccess) :
    KeepsControl false false s (s.cancelWinner.deviceAccess x) where
  waiting := by simp
  inhibitOnce := by simp
  boundaryTaken := by simp
  stepReq := by simp
  resetReq := by simp
  layout := by simp
  requests := (cancelWinner_clears s).trans (deviceAccess_clears s.cancelWinner x)
  log := by simp
  unseen h := by simp at h

theorem afterRead_keepsControl (s : State) (a : Addr) : KeepsControl false false s (s.afterRead a) := by
  unfold State.afterRead
  split
  · split
    · exact cancelWinner_deviceAccess_keepsControl s _
    · exact deviceAccess_keepsControl s _
  · exact keepsControl_of_eq rfl

theorem writeByte_keepsControl (s : State) (a : Addr) (v : Byte) : KeepsControl false false s (writeByte s a v) := by
  obtain ⟨e, -⟩ | ⟨e, -⟩ := writeByte_spec s a v <;> rw [e]
  · exact deviceAccess_keepsControl s _
  · exact keepsControl_of_eq rfl

/-! ### The frame -/

/-- What an instruction may change beside memory, flags and the platform: registers of one bank, a halt, the one-shot inhibit. -/
structure Allowance where
  bank : Bool
  regs : List Reg
  halts : Bool
  inhibits : Bool

/-- From `s` to `t` nothing has changed but what `c` allows. -/
structure Framed (c : Allowance) (s t : State) : Prop where
  registers : KeepsRegs c.bank c.regs s t
  control : KeepsControl c.halts c.inhibits s t

theorem framed_refl (b : Bool) (l : List Reg) (s : State) : Framed ⟨b, l, false, false⟩ s s :=
  ⟨keepsRegs_of_eq rfl, keepsControl_of_eq rfl⟩

theorem Framed.then {c : Allowance} {s u t : State} (h : Framed c s u) (hr : KeepsRegs c.bank c.regs u t) (hc : KeepsControl false false u t) :
    Framed c s t :=
  ⟨h.registers.trans hr, h.control.trans hc⟩

/-! ### How an instruction ends -/

/-- Every state that the result answers is framed. -/
def FramesNext (c : Allowance) (s : State) (r : Result) : Prop :=
  ∀ t, r = .next t → Framed c s t

section
variable {c : Allowance} {s u : State}

/-- PC is no register of the frame: it is the instruction's to set (R28). -/
theorem retireAt_framed {i : Instr} {a : Addr} (h : Framed c s u) : FramesNext c s (retireAt i a u) := by
  intro t ht
  obtain ⟨-, rfl⟩ := (retireAt_next i a u t).1 ht
  exact h.then (keepsRegs_of_eq rfl) (keepsControl_of_eq rfl)

theorem retire_framed {i : Instr} (h : Framed c s u) : FramesNext c s (retire i u) := retireAt_framed h

/-! ### Updates that the frame does not see -/

/-- An update of what the frame does not speak of. -/
theorem Framed.unseen {t : State} (h : Framed c s u) (hr : t.regFile = u.regFile) (hc : t.control = u.control) : Framed c s t :=
  h.then (keepsRegs_of_eq hr) (keepsControl_of_eq hc)

theorem setFlg_framed {f : Flg} (h : Framed c s u) : Framed c s (u.setFlg f) := h.unseen rfl rfl

theorem draw_framed (h : Framed c s u) : Framed c s (draw u).2 := h.unseen rfl rfl

/-! ### Halt and one-shot inhibit -/

theorem inhibit_framed {b : Bool} {l : List Reg} {w i : Bool} (h : Framed ⟨b, l, w, i⟩ s u) : Framed ⟨b, l, w, true⟩ s u.inhibit where
  registers := h.registers.trans (keepsRegs_of_eq rfl)
  control := { h.control with inhibitOnce := by simp }

theorem wait_framed {b : Bool} {l : List Reg} {w i : Bool} (h : Framed ⟨b, l, w, i⟩ s u) :
    Framed ⟨b, l, true, i⟩ s { u with waiting := true } where
  registers := h.registers.trans (keepsRegs_of_eq rfl)
  control := { h.control with waiting := by simp }

/-! ### Accesses -/

theorem afterRead_framed {a : Addr} (h : Framed c s u) : Framed c s (u.afterRead a) :=
  h.then (keepsRegs_of_eq (by simp [State.regFile])) (afterRead_keepsControl u a)

theorem readByte_framed {a : Addr} (h : Framed c s u) : Framed c s (readByte u a).2 := afterRead_framed h

theorem read16_framed {a : Addr} (h : Framed c s u) : Framed c s (read16 u a).2 := readByte_framed (readByte_framed h)

theorem read24_framed {a : Addr} (h : Framed c s u) : Framed c s (read24 u a).2 := readByte_framed (read16_framed h)

theorem read32_framed {a : Addr} (h : Framed c s u) : Framed c s (read32 u a).2 := by
  dsimp only [read32]
  exact read16_framed (read16_framed h)

theorem writeByte_framed {a : Addr} {v : Byte} (h : Framed c s u) : Framed c s (writeByte u a v) :=
  h.then (keepsRegs_of_eq (by simp [State.regFile])) (writeByte_keepsControl u a v)

theorem write16_framed {a : Addr} {v : Word} (h : Framed c s u) : Framed c s (write16 u a v) := writeByte_framed (writeByte_framed h)

theorem write24_framed {a : Addr} {v : BitVec 24} (h : Framed c s u) : Framed c s (write24 u a v) := writeByte_framed (write16_framed h)

theorem write32_framed {a : Addr} {v : Long} (h : Framed c s u) : Framed c s (write32 u a v) := write16_framed (write16_framed h)

theorem readSrc8_framed {x : Operand} (h : Framed c s u) : Framed c s (readSrc8 u x).2 := by
  cases x with
  | dreg r => exact h
  | areg a => exact h
  | mem m => exact readByte_framed h

theorem readSrc16_framed {x : Operand} (h : Framed c s u) : Framed c s (readSrc16 u x).2 := by
  cases x with
  | dreg r => exact h
  | areg a => exact h
  | mem m => exact read16_framed h

theorem readBit_framed {p : BitPlace} (h : Framed c s u) : Framed c s (readBit u p).2 := by
  cases p with
  | dreg r k => exact h
  | areg a k => exact h
  | mem a k => exact readByte_framed h

theorem readIndW_framed {x : IndW} (h : Framed c s u) : Framed c s (readIndW u x).2 := by
  cases x with
  | dreg r => exact h
  | areg a => exact h
  | mem m => exact read16_framed h

theorem readIndA_framed {x : IndA} (h : Framed c s u) : Framed c s (readIndA u x).2 := by
  cases x with
  | pair p => exact h
  | mem m => exact read24_framed h

theorem specialPageTarget_framed {n : Byte} (h : Framed c s u) : Framed c s (specialPageTarget u n).2 := by
  dsimp only [specialPageTarget]
  exact read16_framed h

theorem readContext_framed {n : Word} {a : Addr} (h : Framed c s u) : Framed c s (readContext u n a).2 := by
  unfold readContext
  exact readByte_framed (readByte_framed (readByte_framed h))

/-! ### Registers that have no bank (R20, R30, R31) -/

theorem setSb_framed {v : Word} (h : Framed c s u) (hl : .sb ∈ c.regs) : Framed c s { u with sb := v } :=
  h.then ⟨fun r hr => by cases r with | sb => exact absurd hl hr | _ => rfl, rfl⟩ (keepsControl_of_eq rfl)

theorem setUsp_framed {v : Word} (h : Framed c s u) (hl : .usp ∈ c.regs) : Framed c s { u with usp := v } :=
  h.then ⟨fun r hr => by cases r with | usp => exact absurd hl hr | _ => rfl, rfl⟩ (keepsControl_of_eq rfl)

theorem setIsp_framed {v : Word} (h : Framed c s u) (hl : .isp ∈ c.regs) : Framed c s { u with isp := v } :=
  h.then ⟨fun r hr => by cases r with | isp => exact absurd hl hr | _ => rfl, rfl⟩ (keepsControl_of_eq rfl)

theorem spReg_mem_of_flg_eq {t : State} {l : List Reg} (hl : u.spReg ∈ l) (h : t.flg = u.flg) : t.spReg ∈ l := by
  simpa [State.spReg, h] using hl

/-- Only the stack pointer that U selects is written (R31). -/
theorem setSp_framed {v : Word} (h : Framed c s u) (hl : u.spReg ∈ c.regs) : Framed c s (u.setSp v) := by
  unfold State.spReg at hl
  unfold State.setSp
  split
  · exact setUsp_framed h (by simpa [*] using hl)
  · exact setIsp_framed h (by simpa [*] using hl)

theorem push8_framed {v : Byte} (h : Framed c s u) (hl : u.spReg ∈ c.regs) : Framed c s (push8 u v) :=
  writeByte_framed (setSp_framed h hl)

theorem push16_framed {v : Word} (h : Framed c s u) (hl : u.spReg ∈ c.regs) : Framed c s (push16 u v) :=
  write16_framed (setSp_framed h hl)

theorem pop8_framed (h : Framed c s u) (hl : u.spReg ∈ c.regs) : Framed c s (pop8 u).2 :=
  setSp_framed (readByte_framed h) (spReg_mem_of_flg_eq hl (by simp))

theorem pop16_framed (h : Framed c s u) (hl : u.spReg ∈ c.regs) : Framed c s (pop16 u).2 :=
  setSp_framed (read16_framed h) (spReg_mem_of_flg_eq hl (by simp))

theorem pushRet_framed {a : Addr} (h : Framed c s u) (hl : u.spReg ∈ c.regs) : Framed c s (pushRet u a) :=
  push16_framed (push8_framed h hl) (spReg_mem_of_flg_eq hl (by simp))

theorem popRet_framed (h : Framed c s u) (hl : u.spReg ∈ c.regs) : Framed c s (popRet u).2 :=
  pop8_framed (pop16_framed h hl) (spReg_mem_of_flg_eq hl (by simp))

theorem pushOperand_framed {sz : Size} {x : Operand} (h : Framed c s u) (hl : u.spReg ∈ c.regs) : Framed c s (pushOperand sz x u) := by
  cases sz with
  | b => exact push8_framed (readSrc8_framed h) (spReg_mem_of_flg_eq hl (by simp))
  | w => exact push16_framed (readSrc16_framed h) (spReg_mem_of_flg_eq hl (by simp))

theorem addToSp_framed {v : Word} (h : Framed c s u) (hl : u.spReg ∈ c.regs) : Framed c s (addToSp v u) :=
  setFlg_framed (setSp_framed h hl)

theorem setIntbLow_framed {v : Word} (h : Framed c s u) (hl : .intbl ∈ c.regs) :
    Framed c s { u with intb := u.intb.extractLsb' 16 4 ++ v } := by
  refine h.then ⟨fun r hr => ?_, rfl⟩ (keepsControl_of_eq rfl)
  cases r with
  | intbl => exact absurd hl hr
  | intbh => exact setIntbLow_toNat_div u.intb v
  | _ => rfl

theorem setIntbHigh_framed {v : BitVec 4} (h : Framed c s u) (hl : .intbh ∈ c.regs) :
    Framed c s { u with intb := v ++ u.intb.extractLsb' 0 16 } := by
  refine h.then ⟨fun r hr => ?_, rfl⟩ (keepsControl_of_eq rfl)
  cases r with
  | intbh => exact absurd hl hr
  | intbl => exact setIntbHigh_toNat_mod u.intb v
  | _ => rfl

/-! ### Registers of the selected bank (R26) -/

theorem setBank_framed {k : Bank} (h : Framed c s u) (hb : u.flg.b = c.bank) (hk : Bank.KeepsBut c.regs u.bank k) :
    Framed c s (u.setBank k) :=
  h.then (setBank_keepsRegs hb hk) (keepsControl_of_eq (by simp [State.control]))

theorem setWord_framed {r : DReg} {v : Word} (h : Framed c s u) (hb : u.flg.b = c.bank) (hl : DReg.wordRegs r ⊆ c.regs) :
    Framed c s (u.setWord r v) := by
  cases r <;> exact setBank_framed h hb (by constructor <;> simp_all [DReg.wordRegs])

theorem setByte_framed {r : DReg} {v : Byte} (h : Framed c s u) (hb : u.flg.b = c.bank) (hl : DReg.byteReg r ∈ c.regs) :
    Framed c s (u.setByte r v) := by
  cases r <;> exact setBank_framed h hb (by constructor <;> simp_all [DReg.byteReg, setLow_toNat_div, setHigh_toNat_mod])

theorem setAreg_framed {a : AReg} {v : Word} (h : Framed c s u) (hb : u.flg.b = c.bank) (hl : AReg.reg a ∈ c.regs) :
    Framed c s (u.setAreg a v) := by
  cases a <;> exact setBank_framed h hb (by constructor <;> simp_all [AReg.reg])

theorem setFb_framed {v : Word} (h : Framed c s u) (hb : u.flg.b = c.bank) (hl : .fb ∈ c.regs) : Framed c s (u.setFb v) :=
  setBank_framed h hb (by constructor <;> simp_all)

theorem setPair_framed {p : Pair} {v : Long} (h : Framed c s u) (hb : u.flg.b = c.bank) (hl : Pair.regs p ⊆ c.regs) :
    Framed c s (u.setPair p v) := by
  cases p <;> exact setBank_framed h hb (by constructor <;> simp_all [Pair.regs])

theorem setApair_framed {p : APair} {v : Long} (h : Framed c s u) (hb : u.flg.b = c.bank) (hl : APair.regs p ⊆ c.regs) :
    Framed c s (u.setApair p v) := by
  cases p with
  | r2r0 => exact setPair_framed (p := .r2r0) h hb hl
  | r3r1 => exact setPair_framed (p := .r3r1) h hb hl
  | a1a0 => exact setBank_framed h hb (by constructor <;> simp_all [APair.regs])

/-- EXTS.W leaves R0 as it was: the low half of the sign-extended word is the word (R357). -/
theorem extendWord_framed (h : Framed c s u) (hb : u.flg.b = c.bank) (hl : .r2 ∈ c.regs) :
    Framed c s (u.setPair .r2r0 ((u.word .r0lR0).signExtend 32)) := by
  have hlow : ((u.word .r0lR0).signExtend 32).extractLsb' 0 16 = u.bank.r0 := by
    apply BitVec.eq_of_getLsbD_eq
    intro j hj
    rw [BitVec.getLsbD_extractLsb', BitVec.getLsbD_signExtend]
    simp [State.word, hj, show j < 32 by omega]
  exact setBank_framed h hb (by constructor <;> simp_all)

/-! ### Operations on a destination -/

theorem writeDest8_framed {dst : Operand} {v : Byte} (h : Framed c s u) (hb : u.flg.b = c.bank) (hl : Operand.regs .b dst ⊆ c.regs) :
    Framed c s (writeDest8 u dst v) := by
  cases dst with
  | dreg r => exact setByte_framed h hb (hl List.mem_cons_self)
  | areg a => exact setAreg_framed h hb (hl List.mem_cons_self)
  | mem m => exact writeByte_framed h

theorem writeDest16_framed {dst : Operand} {v : Word} (h : Framed c s u) (hb : u.flg.b = c.bank) (hl : Operand.regs .w dst ⊆ c.regs) :
    Framed c s (writeDest16 u dst v) := by
  cases dst with
  | dreg r => exact setWord_framed h hb hl
  | areg a => exact setAreg_framed h hb (hl List.mem_cons_self)
  | mem m => exact write16_framed h

theorem update8_framed {op : Binary} {x : Byte} {dst : Operand} (h : Framed c s u) (hb : u.flg.b = c.bank)
    (hl : Operand.regs .b dst ⊆ c.regs) : Framed c s (update8 op x dst u) := by
  cases dst with
  | dreg r => exact setFlg_framed (setByte_framed h hb (hl List.mem_cons_self))
  | areg a => exact setFlg_framed (setAreg_framed h hb (hl List.mem_cons_self))
  | mem m => exact setFlg_framed (writeByte_framed (readByte_framed h))

theorem update16_framed {op : Binary} {x : Word} {dst : Operand} (h : Framed c s u) (hb : u.flg.b = c.bank)
    (hl : Operand.regs .w dst ⊆ c.regs) : Framed c s (update16 op x dst u) := by
  cases dst with
  | dreg r => exact setFlg_framed (setWord_framed h hb hl)
  | areg a => exact setFlg_framed (setAreg_framed h hb (hl List.mem_cons_self))
  | mem m => exact setFlg_framed (write16_framed (read16_framed h))

theorem updateG_framed {op : Binary} {sz : Size} {src dst : Operand} (h : Framed c s u) (hb : u.flg.b = c.bank)
    (hl : Operand.regs sz dst ⊆ c.regs) : Framed c s (updateG op sz src dst u) := by
  cases sz with
  | b => exact update8_framed (readSrc8_framed h) (by simpa using hb) hl
  | w => exact update16_framed (readSrc16_framed h) (by simpa using hb) hl

theorem updateImm_framed {op : Binary} {imm : Imm} {dst : Operand} (h : Framed c s u) (hb : u.flg.b = c.bank)
    (hl : Operand.regs imm.size dst ⊆ c.regs) : Framed c s (updateImm op imm dst u) := by
  cases imm with
  | b v => exact update8_framed h hb hl
  | w v => exact update16_framed h hb hl

theorem updateQ_framed {op : Binary} {sz : Size} {imm : BitVec 4} {dst : Operand} (h : Framed c s u) (hb : u.flg.b = c.bank)
    (hl : Operand.regs sz dst ⊆ c.regs) : Framed c s (updateQ op sz imm dst u) := by
  cases sz with
  | b => exact update8_framed h hb hl
  | w => exact update16_framed h hb hl

theorem updateOne_framed {op : Binary} {sz : Size} {dst : Operand} (h : Framed c s u) (hb : u.flg.b = c.bank)
    (hl : Operand.regs sz dst ⊆ c.regs) : Framed c s (updateOne op sz dst u) := by
  cases sz with
  | b => exact update8_framed h hb hl
  | w => exact update16_framed h hb hl

theorem compare8_framed {op : Compare} {x : Byte} {dst : Operand} (h : Framed c s u) : Framed c s (compare8 op x dst u) := by
  cases dst with
  | dreg r => exact setFlg_framed h
  | areg a => exact setFlg_framed h
  | mem m => exact setFlg_framed (readByte_framed h)

theorem compare16_framed {op : Compare} {x : Word} {dst : Operand} (h : Framed c s u) : Framed c s (compare16 op x dst u) := by
  cases dst with
  | dreg r => exact setFlg_framed h
  | areg a => exact setFlg_framed h
  | mem m => exact setFlg_framed (read16_framed h)

theorem compareG_framed {op : Compare} {sz : Size} {src dst : Operand} (h : Framed c s u) : Framed c s (compareG op sz src dst u) := by
  cases sz with
  | b => exact compare8_framed (readSrc8_framed h)
  | w => exact compare16_framed (readSrc16_framed h)

theorem compareImm_framed {op : Compare} {imm : Imm} {dst : Operand} (h : Framed c s u) : Framed c s (compareImm op imm dst u) := by
  cases imm with
  | b v => exact compare8_framed h
  | w v => exact compare16_framed h

theorem compareQ_framed {op : Compare} {sz : Size} {imm : BitVec 4} {dst : Operand} (h : Framed c s u) :
    Framed c s (compareQ op sz imm dst u) := by
  cases sz with
  | b => exact compare8_framed h
  | w => exact compare16_framed h

/-! ### Transfers -/

theorem move8_framed {x : Byte} {dst : Operand} (h : Framed c s u) (hb : u.flg.b = c.bank) (hl : Operand.regs .b dst ⊆ c.regs) :
    Framed c s (move8 x dst u) := by
  cases dst with
  | dreg r => exact setFlg_framed (setByte_framed h hb (hl List.mem_cons_self))
  | areg a => exact setFlg_framed (setAreg_framed h hb (hl List.mem_cons_self))
  | mem m => exact setFlg_framed (writeByte_framed h)

theorem move16_framed {x : Word} {dst : Operand} (h : Framed c s u) (hb : u.flg.b = c.bank) (hl : Operand.regs .w dst ⊆ c.regs) :
    Framed c s (move16 x dst u) :=
  setFlg_framed (writeDest16_framed h hb hl)

theorem moveG_framed {sz : Size} {src dst : Operand} (h : Framed c s u) (hb : u.flg.b = c.bank) (hl : Operand.regs sz dst ⊆ c.regs) :
    Framed c s (moveG sz src dst u) := by
  cases sz with
  | b => exact move8_framed (readSrc8_framed h) (by simpa using hb) hl
  | w => exact move16_framed (readSrc16_framed h) (by simpa using hb) hl

theorem moveFrom_framed {sz : Size} {a : Addr} {dst : Operand} (h : Framed c s u) (hb : u.flg.b = c.bank)
    (hl : Operand.regs sz dst ⊆ c.regs) : Framed c s (moveFrom sz a dst u) := by
  cases sz with
  | b => exact move8_framed (readByte_framed h) (by simpa using hb) hl
  | w => exact move16_framed (read16_framed h) (by simpa using hb) hl

theorem moveImm_framed {imm : Imm} {dst : Operand} (h : Framed c s u) (hb : u.flg.b = c.bank) (hl : Operand.regs imm.size dst ⊆ c.regs) :
    Framed c s (moveImm imm dst u) := by
  cases imm with
  | b v => exact move8_framed h hb hl
  | w v => exact move16_framed h hb hl

theorem moveToSp_framed {sz : Size} {src : Operand} {d : Byte} (h : Framed c s u) : Framed c s (moveToSp sz src d u) := by
  cases sz with
  | b => exact setFlg_framed (writeByte_framed (readSrc8_framed h))
  | w => exact setFlg_framed (write16_framed (readSrc16_framed h))

theorem storeExtended_framed {sz : Size} {src : Operand} {a : Addr} (h : Framed c s u) : Framed c s (storeExtended sz src a u) := by
  cases sz with
  | b => exact setFlg_framed (writeByte_framed (readSrc8_framed h))
  | w => exact setFlg_framed (write16_framed (readSrc16_framed h))

theorem popOperand_framed {sz : Size} {dst : Operand} (h : Framed c s u) (hb : u.flg.b = c.bank)
    (hl : u.spReg :: Operand.regs sz dst ⊆ c.regs) : Framed c s (popOperand sz dst u) := by
  obtain ⟨hs, hd⟩ := List.cons_subset.1 hl
  cases sz with
  | b => exact writeDest8_framed (pop8_framed h hs) (by simpa using hb) hd
  | w => exact writeDest16_framed (pop16_framed h hs) (by simpa using hb) hd

theorem exchange_framed {sz : Size} {r : DReg} {dst : Operand} (h : Framed c s u) (hb : u.flg.b = c.bank)
    (hl : Operand.regs sz (.dreg r) ++ Operand.regs sz dst ⊆ c.regs) : Framed c s (exchange sz r dst u) := by
  obtain ⟨hr, hd⟩ := List.append_subset.1 hl
  cases sz with
  | b =>
    exact setByte_framed (writeDest8_framed (readSrc8_framed h) (by simpa using hb) hd) (by simpa using hb) (hr List.mem_cons_self)
  | w => exact setWord_framed (writeDest16_framed (readSrc16_framed h) (by simpa using hb) hd) (by simpa using hb) hr

/-! ### Register lists -/

/-- One transfer of a register list keeps the frame if setting its register does; the selected bank stays the same. -/
theorem loadIf_framed {sel : Bool} {set : State → Word → State} {x : State × Word} (h : Framed c s x.1 ∧ x.1.flg.b = c.bank)
    (hset : sel = true → ∀ w v, Framed c s w → w.flg.b = c.bank → Framed c s (set w v)) (hflg : ∀ w v, (set w v).flg = w.flg) :
    Framed c s (loadIf sel set x).1 ∧ (loadIf sel set x).1.flg.b = c.bank := by
  refine ⟨?_, by rw [loadIf_flg sel set x hflg]; exact h.2⟩
  rw [loadIf_spec]
  split
  · next hsel => exact hset hsel _ _ (read16_framed h.1) (by simpa using h.2)
  · exact h.1

theorem loadRegs_framed {l : RegList} {p : Word} (h : Framed c s u) (hb : u.flg.b = c.bank) (hl : RegList.regs l ⊆ c.regs) :
    Framed c s (loadRegs l u p).1 := by
  have hmem : ∀ r, r ∈ RegList.regs l → r ∈ c.regs := fun r hr => hl hr
  refine (loadIf_framed (loadIf_framed (loadIf_framed (loadIf_framed (loadIf_framed (loadIf_framed (loadIf_framed (loadIf_framed ⟨h, hb⟩
    ?r0 ?_) ?r1 ?_) ?r2 ?_) ?r3 ?_) ?a0 ?_) ?a1 ?_) ?sb ?_) ?fb ?_).1
  case r0 | r1 | r2 | r3 => exact fun hsel w v hw hwb => setWord_framed hw hwb (by simp [DReg.wordRegs, hmem, RegList.regs, hsel])
  case a0 | a1 => exact fun hsel w v hw hwb => setAreg_framed hw hwb (hmem _ (by simp [AReg.reg, RegList.regs, hsel]))
  case sb => exact fun hsel w v hw _ => setSb_framed hw (hmem _ (by simp [RegList.regs, hsel]))
  case fb => exact fun hsel w v hw hwb => setFb_framed hw hwb (hmem _ (by simp [RegList.regs, hsel]))
  all_goals exact fun _ _ => by simp

theorem storeIf_framed {sel : Bool} {get : State → Word} {x : State × Word} (h : Framed c s x.1) : Framed c s (storeIf sel get x).1 := by
  rw [storeIf_spec]
  split
  · exact write16_framed h
  · exact h

theorem storeRegs_framed {l : RegList} {p : Word} (h : Framed c s u) : Framed c s (storeRegs l u p).1 := by
  unfold storeRegs
  iterate 8 apply storeIf_framed
  exact h

/-! ### Arithmetic, shifts, bits -/

theorem extendByte_framed {dst : Operand} (h : Framed c s u) (hb : u.flg.b = c.bank) (hl : mulRegs .b dst ⊆ c.regs) :
    Framed c s (extendByte dst u) := by
  cases dst with
  | dreg r =>
    cases r with
    | r0lR0 => exact setFlg_framed (setWord_framed (r := .r0lR0) h hb hl)
    | r1lR2 => exact setFlg_framed (setWord_framed (r := .r0hR1) h hb hl)
    | r0hR1 | r1hR3 => exact h
  | areg a => exact h
  | mem m => exact setFlg_framed (write16_framed (readByte_framed h))

theorem decimal8_framed {op : Decimal} {carry : Nat → Int → Bool} {x : Byte} (h : Framed c s u) (hb : u.flg.b = c.bank)
    (hl : .r0l ∈ c.regs) : Framed c s (decimal8 op carry x u) := by
  unfold decimal8
  split
  · exact setFlg_framed (setByte_framed h hb hl)
  · exact setFlg_framed (setByte_framed (draw_framed (draw_framed h)) hb hl)

theorem decimal16_framed {op : Decimal} {carry : Nat → Int → Bool} {x : Word} (h : Framed c s u) (hb : u.flg.b = c.bank)
    (hl : [.r0l, .r0h] ⊆ c.regs) : Framed c s (decimal16 op carry x u) := by
  unfold decimal16
  split
  · exact setFlg_framed (setWord_framed h hb hl)
  · exact setFlg_framed (setWord_framed (draw_framed (draw_framed h)) hb hl)

theorem decimalReg_framed {op : Decimal} {carry : Nat → Int → Bool} {sz : Size} (h : Framed c s u) (hb : u.flg.b = c.bank)
    (hl : Operand.regs sz (.dreg .r0lR0) ⊆ c.regs) : Framed c s (decimalReg op carry sz u) := by
  cases sz with
  | b => exact decimal8_framed h hb (hl List.mem_cons_self)
  | w => exact decimal16_framed h hb hl

theorem decimalImm_framed {op : Decimal} {carry : Nat → Int → Bool} {imm : Imm} (h : Framed c s u) (hb : u.flg.b = c.bank)
    (hl : Operand.regs imm.size (.dreg .r0lR0) ⊆ c.regs) : Framed c s (decimalImm op carry imm u) := by
  cases imm with
  | b v => exact decimal8_framed h hb (hl List.mem_cons_self)
  | w v => exact decimal16_framed h hb hl

theorem divide8_framed {k : DivKind} {x : Byte} (h : Framed c s u) (hb : u.flg.b = c.bank) (hl : divRegs .b ⊆ c.regs) :
    Framed c s (divide8 k x u) := by
  unfold divide8
  split
  · exact setFlg_framed (setWord_framed h hb hl)
  · exact setFlg_framed (setWord_framed (draw_framed h) hb hl)

theorem divRegs_word_subset {l : List Reg} : divRegs .w ⊆ l ↔ Pair.regs .r2r0 ⊆ l := by
  simp only [divRegs, Pair.regs, reduceCtorEq, if_false, List.cons_subset, List.nil_subset]
  tauto

theorem divide16_framed {k : DivKind} {x : Word} (h : Framed c s u) (hb : u.flg.b = c.bank) (hl : divRegs .w ⊆ c.regs) :
    Framed c s (divide16 k x u) := by
  have hp := divRegs_word_subset.1 hl
  unfold divide16
  split
  · exact setFlg_framed (setPair_framed h hb hp)
  · exact setFlg_framed (setPair_framed (draw_framed h) hb hp)

theorem divideG_framed {k : DivKind} {sz : Size} {src : Operand} (h : Framed c s u) (hb : u.flg.b = c.bank) (hl : divRegs sz ⊆ c.regs) :
    Framed c s (divideG k sz src u) := by
  cases sz with
  | b => exact divide8_framed (readSrc8_framed h) (by simpa using hb) hl
  | w => exact divide16_framed (readSrc16_framed h) (by simpa using hb) hl

theorem divideImm_framed {k : DivKind} {imm : Imm} (h : Framed c s u) (hb : u.flg.b = c.bank) (hl : divRegs imm.size ⊆ c.regs) :
    Framed c s (divideImm k imm u) := by
  cases imm with
  | b v => exact divide8_framed h hb hl
  | w v => exact divide16_framed h hb hl

theorem multiply8_framed {signed : Bool} {x : Byte} {dst : Operand} (h : Framed c s u) (hb : u.flg.b = c.bank)
    (hl : mulRegs .b dst ⊆ c.regs) : Framed c s (multiply8 signed x dst u) := by
  cases dst with
  | dreg r =>
    cases r with
    | r0lR0 => exact setWord_framed (r := .r0lR0) h hb hl
    | r1lR2 => exact setWord_framed (r := .r0hR1) h hb hl
    | r0hR1 | r1hR3 => exact h
  | areg a => exact setAreg_framed (a := a) h hb (hl (by cases a <;> exact List.mem_cons_self))
  | mem m => exact write16_framed (readByte_framed h)

theorem multiply16_framed {signed : Bool} {x : Word} {dst : Operand} (h : Framed c s u) (hb : u.flg.b = c.bank)
    (hl : mulRegs .w dst ⊆ c.regs) : Framed c s (multiply16 signed x dst u) := by
  cases dst with
  | dreg r =>
    cases r with
    | r0lR0 => exact setPair_framed (p := .r2r0) h hb (by simp_all [mulRegs, Pair.regs])
    | r0hR1 => exact setPair_framed (p := .r3r1) h hb (by simp_all [mulRegs, Pair.regs])
    | r1lR2 | r1hR3 => exact h
  | areg a =>
    cases a with
    | a0 => exact setApair_framed (p := .a1a0) h hb (by simp_all [mulRegs, APair.regs])
    | a1 => exact h
  | mem m => exact write32_framed (read16_framed h)

theorem multiplyG_framed {signed : Bool} {sz : Size} {src dst : Operand} (h : Framed c s u) (hb : u.flg.b = c.bank)
    (hl : mulRegs sz dst ⊆ c.regs) : Framed c s (multiplyG signed sz src dst u) := by
  cases sz with
  | b => exact multiply8_framed (readSrc8_framed h) (by simpa using hb) hl
  | w => exact multiply16_framed (readSrc16_framed h) (by simpa using hb) hl

theorem multiplyImm_framed {signed : Bool} {imm : Imm} {dst : Operand} (h : Framed c s u) (hb : u.flg.b = c.bank)
    (hl : mulRegs imm.size dst ⊆ c.regs) : Framed c s (multiplyImm signed imm dst u) := by
  cases imm with
  | b v => exact multiply8_framed h hb hl
  | w v => exact multiply16_framed h hb hl

theorem shiftR1H_framed {k : ShiftKind} {sz : Size} {dst : Operand} (h : Framed c s u) (hb : u.flg.b = c.bank)
    (hl : Operand.regs sz dst ⊆ c.regs) : Framed c s (shiftR1H k sz dst u) := by
  unfold shiftR1H
  dsimp only
  split
  · exact h
  · split
    · exact updateOne_framed h hb hl
    · exact updateOne_framed (draw_framed (draw_framed h)) hb hl

theorem shiftLongImm_framed {k : ShiftKind} {p : Pair} {n : ShiftCount} (h : Framed c s u) (hb : u.flg.b = c.bank)
    (hl : Pair.regs p ⊆ c.regs) : Framed c s (shiftLongImm k p n u) :=
  setFlg_framed (setPair_framed (draw_framed h) hb hl)

theorem shiftLongR1H_framed {k : ShiftKind} {p : Pair} (h : Framed c s u) (hb : u.flg.b = c.bank) (hl : Pair.regs p ⊆ c.regs) :
    Framed c s (shiftLongR1H k p u) := by
  unfold shiftLongR1H
  dsimp only
  split
  · exact h
  · split
    · exact setFlg_framed (setPair_framed (draw_framed h) hb hl)
    · exact setFlg_framed (setPair_framed (draw_framed (draw_framed h)) hb hl)

/-- The register that holds a designated bit. -/
def BitPlace.regs : BitPlace → List Reg
  | .dreg r _ => DReg.wordRegs r
  | .areg a _ => [AReg.reg a]
  | .mem _ _ => []

theorem updateBit_framed {f : Bool → Bool} {p : BitPlace} (h : Framed c s u) (hb : u.flg.b = c.bank) (hl : p.regs ⊆ c.regs) :
    Framed c s (updateBit f p u) := by
  cases p with
  | dreg r k => exact setWord_framed h hb hl
  | areg a k => exact setAreg_framed h hb (hl List.mem_cons_self)
  | mem a k => exact writeByte_framed (readByte_framed h)

theorem combineBit_framed {f : Bool → Bool → Bool} {p : BitPlace} (h : Framed c s u) : Framed c s (combineBit f p u) :=
  setFlg_framed (readBit_framed h)

theorem testBit_framed {f : Bool → Bool} {p : BitPlace} (h : Framed c s u) : Framed c s (testBit f p u) :=
  setFlg_framed (readBit_framed h)

theorem testAndPut_framed {v : Bool} {p : BitPlace} (h : Framed c s u) (hb : u.flg.b = c.bank) (hl : p.regs ⊆ c.regs) :
    Framed c s (testAndPut v p u) :=
  setFlg_framed (updateBit_framed h hb hl)

/-! ### Control registers and interrupts -/

theorem setCreg_framed {k : CReg} {v : Word} (h : Framed c s u) (hb : u.flg.b = c.bank) (hl : u.cregRegs k ⊆ c.regs) :
    Framed c s (u.setCreg k v) := by
  cases k with
  | intbl => exact setIntbLow_framed h (hl List.mem_cons_self)
  | intbh => exact setIntbHigh_framed h (hl List.mem_cons_self)
  | flg => exact setFlg_framed h
  | isp => exact setIsp_framed h (hl List.mem_cons_self)
  | sp => exact setSp_framed h (hl List.mem_cons_self)
  | sb => exact setSb_framed h (hl List.mem_cons_self)
  | fb => exact setFb_framed h hb (hl List.mem_cons_self)

/-- The frame goes on the stack that the new U selects (R620). -/
theorem interruptSequence_framed {vec ret : Addr} {clearU : Bool} {lvl : Option (BitVec 3)} (h : Framed c s u)
    (hl : (if clearU then Reg.isp else u.spReg) ∈ c.regs) : Framed c s (interruptSequence u vec ret clearU lvl) := by
  have hs : (u.setFlg { u.flg with i := false, d := false, u := !clearU && u.flg.u }).spReg ∈ c.regs := by
    cases clearU <;> simpa [State.spReg] using hl
  exact (read32_framed (a := vec) (setFlg_framed (push16_framed (push16_framed (setFlg_framed h) hs)
    (spReg_mem_of_flg_eq hs (by simp))))).unseen rfl rfl

theorem interruptReturn_framed (h : Framed c s u) (hl : u.spReg ∈ c.regs) : Framed c s (interruptReturn u) :=
  (pop16_framed (pop16_framed h hl) (spReg_mem_of_flg_eq hl (by simp))).unseen rfl rfl

theorem softwareInterrupt_framed {i : Instr} {vec : Addr} {clearU : Bool} (h : Framed c s u)
    (hl : (if clearU then Reg.isp else u.spReg) ∈ c.regs) : FramesNext c s (softwareInterrupt i vec clearU u) :=
  retireAt_framed (interruptSequence_framed h hl)


/-! ### Strings and sums of products: nothing is written where R3 is 0 (R412, R500) -/

theorem copyElement_framed {sz : Size} (h : Framed c s u) : Framed c s (copyElement sz u) := by
  cases sz with
  | b => exact writeByte_framed (readByte_framed h)
  | w => exact write16_framed (read16_framed h)

theorem endIteration_framed {i : Instr} {v : State} (h : Framed c s u) (hb : u.flg.b = c.bank) (hl : .r3 ∈ c.regs) :
    FramesNext c s (endIteration i v u) := by
  have ht := setWord_framed (r := .r1hR3) (v := v.word .r1hR3 - 1) h hb (by simp [DReg.wordRegs, hl])
  unfold endIteration
  dsimp only
  split
  · exact retire_framed ht
  · exact retireAt_framed ht

/-- One iteration of SMOVF or SMOVB: the copy, then R1H by a carry or borrow, A0, A1 and R3 (R501, R502). -/
theorem moveElement_framed {i : Instr} {sz : Size} {carry : Bool} {x : Byte} {v w : Word} (h : Framed c s u) (hb : u.flg.b = c.bank)
    (hl : [.r3, .a0, .a1, .r1h] ⊆ c.regs) :
    FramesNext c s (endIteration i u
      (((if carry then (copyElement sz u).setByte .r1hR3 x else copyElement sz u).setAreg .a0 v).setAreg .a1 w)) := by
  have hcarry : Framed c s (if carry then (copyElement sz u).setByte .r1hR3 x else copyElement sz u) := by
    split
    · exact setByte_framed (copyElement_framed h) (by simpa using hb) (hl (by simp [DReg.byteReg]))
    · exact copyElement_framed h
  have hbank : (if carry then (copyElement sz u).setByte .r1hR3 x else copyElement sz u).flg.b = c.bank := by
    split <;> simpa using hb
  have ha0 := setAreg_framed (a := .a0) (v := v) hcarry hbank (hl (by simp [AReg.reg]))
  have ha1 := setAreg_framed (a := .a1) (v := w) ha0 (by simpa using hbank) (hl (by simp [AReg.reg]))
  exact endIteration_framed ha1 (by simpa using hbank) (hl List.mem_cons_self)

theorem execSmovf_framed {sz : Size} (h : Framed c s u) (hb : u.flg.b = c.bank)
    (hl : (if u.word .r1hR3 = 0 then [] else [.r3, .a0, .a1, .r1h]) ⊆ c.regs) : FramesNext c s (execSmovf sz u) := by
  unfold execSmovf
  split at hl
  · next hr3 => rw [if_pos hr3]; exact retire_framed h
  · next hr3 => rw [if_neg hr3]; exact moveElement_framed h hb hl

theorem execSmovb_framed {sz : Size} (h : Framed c s u) (hb : u.flg.b = c.bank)
    (hl : (if u.word .r1hR3 = 0 then [] else [.r3, .a0, .a1, .r1h]) ⊆ c.regs) : FramesNext c s (execSmovb sz u) := by
  unfold execSmovb
  split at hl
  · next hr3 => rw [if_pos hr3]; exact retire_framed h
  · next hr3 => rw [if_neg hr3]; exact moveElement_framed h hb hl

theorem execSstr_framed {sz : Size} (h : Framed c s u) (hb : u.flg.b = c.bank)
    (hl : (if u.word .r1hR3 = 0 then [] else [.r3, .a1]) ⊆ c.regs) : FramesNext c s (execSstr sz u) := by
  unfold execSstr
  split at hl
  · next hr3 => rw [if_pos hr3]; exact retire_framed h
  · next hr3 =>
    rw [if_neg hr3]
    have ha1 : AReg.reg .a1 ∈ c.regs := hl (by simp [AReg.reg])
    cases sz with
    | b => exact endIteration_framed (setAreg_framed (writeByte_framed h) (by simpa using hb) ha1) (by simpa using hb) (hl List.mem_cons_self)
    | w => exact endIteration_framed (setAreg_framed (write16_framed h) (by simpa using hb) ha1) (by simpa using hb) (hl List.mem_cons_self)

theorem rmpaSum_framed {sz : Size} (h : Framed c s u) : Framed c s (rmpaSum sz u).2 := by
  cases sz with
  | b => exact readByte_framed (readByte_framed h)
  | w => exact read16_framed (read16_framed h)

theorem setAccumulator_framed {sz : Size} {acc : Int} (h : Framed c s u) (hb : u.flg.b = c.bank) (hl : divRegs sz ⊆ c.regs) :
    Framed c s (setAccumulator sz acc u) := by
  cases sz with
  | b => exact setWord_framed (r := .r0lR0) h hb hl
  | w => exact setPair_framed h hb (divRegs_word_subset.1 hl)

/-- A0, A1 and R3 after a sum of products, whether counted on or free (R412, I5). -/
theorem setRmpaPointers_framed {v w n : Word} (h : Framed c s u) (hb : u.flg.b = c.bank) (hl : [.r3, .a0, .a1] ⊆ c.regs) :
    Framed c s (((u.setAreg .a0 v).setAreg .a1 w).setWord .r1hR3 n) :=
  setWord_framed (setAreg_framed (setAreg_framed h hb (hl (by simp [AReg.reg]))) (by simpa using hb) (hl (by simp [AReg.reg])))
    (by simpa using hb) (by simp [DReg.wordRegs, hl List.mem_cons_self])

theorem execRmpa_framed {sz : Size} (h : Framed c s u) (hb : u.flg.b = c.bank)
    (hl : (if u.word .r1hR3 = 0 then [] else [.r3, .a0, .a1] ++ divRegs sz) ⊆ c.regs) : FramesNext c s (execRmpa sz u) := by
  unfold execRmpa
  split at hl
  · next hr3 => rw [if_pos hr3]; exact retire_framed h
  · next hr3 =>
    rw [if_neg hr3]
    obtain ⟨hp, hd⟩ := List.append_subset.1 hl
    have hacc : Framed c s (setAccumulator sz (rmpaSum sz u).1 (rmpaSum sz u).2) :=
      setAccumulator_framed (rmpaSum_framed h) (by simpa using hb) hd
    dsimp only
    split
    · split
      · exact retire_framed (setFlg_framed (setRmpaPointers_framed hacc (by simpa using hb) hp))
      · exact retireAt_framed (setRmpaPointers_framed hacc (by simpa using hb) hp)
    · exact retire_framed (setFlg_framed (setRmpaPointers_framed (draw_framed (draw_framed hacc)) (by simpa using hb) hp))

/-! ### Stack frames and task context -/

theorem execEnter_framed {n : Byte} (h : Framed c s u) (hb : u.flg.b = c.bank) (hl : [u.spReg, .fb] ⊆ c.regs) :
    FramesNext c s (execEnter n u) := by
  have hs : u.spReg ∈ c.regs := hl List.mem_cons_self
  exact retire_framed (setSp_framed (setFb_framed (push16_framed h hs) (by simpa using hb) (hl (by simp)))
    (spReg_mem_of_flg_eq hs (by simp)))

theorem execExitd_framed (h : Framed c s u) (hb : u.flg.b = c.bank) (hl : [u.spReg, .fb] ⊆ c.regs) :
    FramesNext c s (execExitd u) := by
  have hs : u.spReg ∈ c.regs := hl List.mem_cons_self
  exact retireAt_framed (popRet_framed (setFb_framed (pop16_framed (setSp_framed h hs) (spReg_mem_of_flg_eq hs (by simp)))
    (by simpa using hb) (hl (by simp))) (spReg_mem_of_flg_eq hs (by simp)))

theorem execPushm_framed {l : RegList} (h : Framed c s u) (hl : u.spReg ∈ c.regs) : FramesNext c s (execPushm l u) :=
  retire_framed (setSp_framed (storeRegs_framed h) (spReg_mem_of_flg_eq hl (by simp)))

theorem execPopm_framed {l : RegList} (h : Framed c s u) (hb : u.flg.b = c.bank) (hl : u.spReg :: RegList.regs l ⊆ c.regs) :
    FramesNext c s (execPopm l u) := by
  obtain ⟨hs, hr⟩ := List.cons_subset.1 hl
  exact retire_framed (setSp_framed (loadRegs_framed h hb hr) (spReg_mem_of_flg_eq hs (by simp)))

theorem execLdctx_framed {n : Word} {a : Addr} (h : Framed c s u) (hb : u.flg.b = c.bank)
    (hl : u.spReg :: RegList.regs (readContext u n a).1.1 ⊆ c.regs) : FramesNext c s (execLdctx n a u) := by
  obtain ⟨hs, hr⟩ := List.cons_subset.1 hl
  exact retire_framed (setSp_framed (loadRegs_framed (readContext_framed h) (by simpa using hb) hr) (spReg_mem_of_flg_eq hs (by simp)))

theorem execStctx_framed {n : Word} {a : Addr} (h : Framed c s u) (hl : u.spReg ∈ c.regs) : FramesNext c s (execStctx n a u) :=
  retire_framed (setSp_framed (storeRegs_framed (readContext_framed h)) (spReg_mem_of_flg_eq hl (by simp)))

theorem cregRegs_subset_of_flg_eq {t : State} {k : CReg} {l : List Reg} (hl : u.cregRegs k ⊆ l) (h : t.flg = u.flg) :
    t.cregRegs k ⊆ l := by
  cases k with
  | sp => simpa [State.cregRegs, State.spReg, h] using hl
  | _ => exact hl

/-- POPC moves SP before it loads a register other than SP (R553). -/
theorem popToCreg_framed {k : CReg} (h : Framed c s u) (hb : u.flg.b = c.bank) (hl : u.spReg :: u.cregRegs k ⊆ c.regs) :
    Framed c s (if u.isStackPointer k then (read16 u (zext20 u.sp)).2.setSp (read16 u (zext20 u.sp)).1
      else ((read16 u (zext20 u.sp)).2.setSp (u.sp + 2)).setCreg k (read16 u (zext20 u.sp)).1) := by
  obtain ⟨hs, hk⟩ := List.cons_subset.1 hl
  have hread : (read16 u (zext20 u.sp)).2.spReg ∈ c.regs := spReg_mem_of_flg_eq hs (by simp)
  split
  · exact setSp_framed (read16_framed h) hread
  · exact setCreg_framed (setSp_framed (read16_framed h) hread) (by simpa using hb) (cregRegs_subset_of_flg_eq hk (by simp))

theorem brkVector_framed (h : Framed c s u) : Framed c s (brkVector u).2 := by
  dsimp only [brkVector]
  exact read32_framed h

theorem execBrk_framed (h : Framed c s u) (hl : .isp ∈ c.regs) : FramesNext c s (execBrk u) :=
  softwareInterrupt_framed (brkVector_framed h) hl

theorem execInto_framed (h : Framed c s u) (hl : (if u.flg.o then [.isp] else []) ⊆ c.regs) : FramesNext c s (execInto u) := by
  unfold execInto
  split at hl
  · next ho => rw [if_pos ho]; exact softwareInterrupt_framed h (hl List.mem_cons_self)
  · next ho => rw [if_neg ho]; exact retire_framed h

/-- INT writes the stack pointer of its number: ISP up to 31, the selected one from 32 on (R526). -/
theorem execInt_framed {n : BitVec 6} (h : Framed c s u) (hl : (if n.toNat ≤ 31 then [.isp] else [u.spReg]) ⊆ c.regs) :
    FramesNext c s (execInt n u) := by
  apply softwareInterrupt_framed h
  split at hl
  · next hn => simpa [hn] using hl
  · next hn => simpa [hn] using hl

end

/-! ### Registers of the short operands (R105) -/

theorem half_regs_subset (x : Half) : Operand.regs .b (.dreg (Half.dreg x)) ⊆ [Half.reg x] := by
  cases x <;> exact List.Subset.refl _

theorem shortMem_regs_subset {l : List Reg} (m : ShortMem) : Operand.regs .b (ShortMem.operand m) ⊆ l := by
  cases m <;> exact List.nil_subset _

theorem shortDest_regs_subset (x : ShortDest) : Operand.regs .b (ShortDest.operand x) ⊆ ShortDest.regs x := by
  cases x with
  | half y => exact half_regs_subset y
  | mem m => exact shortMem_regs_subset m

theorem bitPlace_regs_subset (s : State) (x : BitOperand) : (s.bitPlace x).regs ⊆ BitOperand.regs x := by
  cases x <;> exact List.Subset.refl _

/-! ### Every instruction -/

/-- What an instruction may change: the registers of its row of `Instr.writes` in the bank that B selects, the halt for WAIT, and the inhibit for
LDC, POPC and LDINTB (R27, R48, R49). -/
def Instr.allowance (s : State) (i : Instr) : Allowance :=
  ⟨s.flg.b, Instr.writes s i, decide (i = .wait), Instr.inhibits i⟩

/-- Before an instruction has done anything. -/
theorem start_framed {s : State} {l : List Reg} : Framed ⟨s.flg.b, l, false, false⟩ s s := framed_refl ..

/-- R21, R26, R27, R46, R48 and R49, instruction by instruction. -/
theorem exec_framed (i : Instr) (s : State) : FramesNext (Instr.allowance s i) s (exec i s) := by
  cases i with dsimp only [exec]
  -- a general destination is written
  | addG | subG | adcG | sbbG | andG | orG | xorG => exact retire_framed (updateG_framed start_framed rfl (List.Subset.refl _))
  | addImm | subImm | adcImm | sbbImm | andImm | orImm | xorImm =>
    exact retire_framed (updateImm_framed start_framed rfl (List.Subset.refl _))
  | addQ => exact retire_framed (updateQ_framed start_framed rfl (List.Subset.refl _))
  | neg | adcf | notG | rolc | rorc | rotImm | shlImm | shaImm =>
    exact retire_framed (updateOne_framed start_framed rfl (List.Subset.refl _))
  | abs => exact retire_framed (updateOne_framed (draw_framed start_framed) rfl (List.Subset.refl _))
  | rotR1H | shlR1H | shaR1H => exact retire_framed (shiftR1H_framed start_framed rfl (List.Subset.refl _))
  | adjnz | sbjnz => exact retireAt_framed (updateQ_framed start_framed rfl (List.Subset.refl _))
  | movG => exact retire_framed (moveG_framed start_framed rfl (List.Subset.refl _))
  | movGImm => exact retire_framed (moveImm_framed start_framed rfl (List.Subset.refl _))
  | movQ sz =>
    cases sz with
    | b => exact retire_framed (move8_framed start_framed rfl (List.Subset.refl _))
    | w => exact retire_framed (move16_framed start_framed rfl (List.Subset.refl _))
  | ldeAbs20 | ldeDsp20 | ldeA1A0 | movFromSp => exact retire_framed (moveFrom_framed start_framed rfl (List.Subset.refl _))
  | stc => exact retire_framed (writeDest16_framed start_framed rfl (List.Subset.refl _))
  | movDirFromR0L => exact retire_framed (writeDest8_framed (readSrc8_framed start_framed) (by simp [Instr.allowance]) (List.Subset.refl _))
  | xchg => exact retire_framed (exchange_framed start_framed rfl (List.Subset.refl _))
  | popG => exact retire_framed (popOperand_framed start_framed rfl (List.Subset.refl _))
  -- a short destination is written (R105)
  | addSSrcHalf h | subSSrcHalf h | andSSrcHalf h | orSSrcHalf h =>
    exact retire_framed (updateG_framed start_framed rfl (half_regs_subset h))
  | movSSrcHalf h => exact retire_framed (moveG_framed start_framed rfl (half_regs_subset h))
  | movSSrcA => exact retire_framed (moveG_framed start_framed rfl (List.Subset.refl _))
  | movWSImmA => exact retire_framed (move16_framed start_framed rfl (List.Subset.refl _))
  | movBSImmA => exact retire_framed (move8_framed start_framed rfl (List.Subset.refl _))
  | incW | decW => exact retire_framed (updateOne_framed start_framed rfl (List.Subset.refl _))
  | addSImm _ d | subSImm _ d | andSImm _ d | orSImm _ d =>
    exact retire_framed (update8_framed start_framed rfl (shortDest_regs_subset d))
  | incB d | decB d | notS d => exact retire_framed (updateOne_framed start_framed rfl (shortDest_regs_subset d))
  | movZ d | movSImm _ d => exact retire_framed (move8_framed start_framed rfl (shortDest_regs_subset d))
  | stz _ d =>
    apply retire_framed
    split
    · exact writeDest8_framed start_framed rfl (shortDest_regs_subset d)
    · exact start_framed
  | stnz _ d =>
    apply retire_framed
    split
    · exact start_framed
    · exact writeDest8_framed start_framed rfl (shortDest_regs_subset d)
  | stzx _ _ d => exact retire_framed (writeDest8_framed start_framed rfl (shortDest_regs_subset d))
  | popBS h => exact retire_framed (popOperand_framed start_framed rfl (List.cons_subset_cons _ (half_regs_subset h)))
  | popWS => exact retire_framed (popOperand_framed start_framed rfl (List.Subset.refl _))
  | movDirToR0L => exact retire_framed (setByte_framed (readSrc8_framed start_framed) (by simp [Instr.allowance]) List.mem_cons_self)
  | mova m dst =>
    cases dst with
    | dreg r => exact retire_framed (setWord_framed start_framed rfl (List.Subset.refl _))
    | areg a => exact retire_framed (setAreg_framed start_framed rfl List.mem_cons_self)
  -- fixed registers and pairs
  | extsB => exact retire_framed (extendByte_framed start_framed rfl (List.Subset.refl _))
  | extsW => exact retire_framed (extendWord_framed start_framed rfl List.mem_cons_self)
  | daddReg | dsubReg | dadcReg | dsbbReg => exact retire_framed (decimalReg_framed start_framed rfl (List.Subset.refl _))
  | daddImm | dsubImm | dadcImm | dsbbImm => exact retire_framed (decimalImm_framed start_framed rfl (List.Subset.refl _))
  | mulG | muluG => exact retire_framed (multiplyG_framed start_framed rfl (List.Subset.refl _))
  | mulImm | muluImm => exact retire_framed (multiplyImm_framed start_framed rfl (List.Subset.refl _))
  | div | divu | divx => exact retire_framed (divideG_framed start_framed rfl (List.Subset.refl _))
  | divImm | divuImm | divxImm => exact retire_framed (divideImm_framed start_framed rfl (List.Subset.refl _))
  | shlLImm | shaLImm => exact retire_framed (shiftLongImm_framed start_framed rfl (List.Subset.refl _))
  | shlLR1H | shaLR1H => exact retire_framed (shiftLongR1H_framed start_framed rfl (List.Subset.refl _))
  | rmpa => exact execRmpa_framed start_framed rfl (List.Subset.refl _)
  | smovf => exact execSmovf_framed start_framed rfl (List.Subset.refl _)
  | smovb => exact execSmovb_framed start_framed rfl (List.Subset.refl _)
  | sstr => exact execSstr_framed start_framed rfl (List.Subset.refl _)
  | stcPc dst =>
    cases dst with
    | pair p => exact retire_framed (setApair_framed start_framed rfl (List.Subset.refl _))
    | mem m => exact retire_framed (write24_framed start_framed)
  -- bits
  | btstc x | btsts x => exact retire_framed (testAndPut_framed start_framed rfl (bitPlace_regs_subset s x))
  | bmcnd _ x | bclrG x | bsetG x | bnotG x => exact retire_framed (updateBit_framed start_framed rfl (bitPlace_regs_subset s x))
  | bclrS | bsetS | bnotS => exact retire_framed (updateBit_framed start_framed rfl (List.nil_subset _))
  | btstS | bntst | btstG => exact retire_framed (testBit_framed start_framed)
  | band | bnand | bor | bnor | bxor | bnxor => exact retire_framed (combineBit_framed start_framed)
  -- no register
  | movSHalfDest _ m => exact retire_framed (move8_framed start_framed rfl (shortMem_regs_subset m))
  | cmpSSrcHalf | cmpG | tstG => exact retire_framed (compareG_framed start_framed)
  | cmpSImm => exact retire_framed (compare8_framed start_framed)
  | cmpImm | tstImm => exact retire_framed (compareImm_framed start_framed)
  | cmpQ => exact retire_framed (compareQ_framed start_framed)
  | steAbs20 | steDsp20 | steA1A0 => exact retire_framed (storeExtended_framed start_framed)
  | movToSp => exact retire_framed (moveToSp_framed start_framed)
  | nop => exact retire_framed start_framed
  | ldipl | bmcndC | fset | fclr => exact retire_framed (setFlg_framed start_framed)
  | jmpS | jcndShort | jcndLong | jmpW | jmpA | jmpB => exact retireAt_framed start_framed
  | jmps => exact retireAt_framed (specialPageTarget_framed start_framed)
  | jmpiA => exact retireAt_framed (readIndA_framed start_framed)
  | jmpiW => exact retireAt_framed (readIndW_framed start_framed)
  -- the stack pointer
  | jsrs => exact retireAt_framed (specialPageTarget_framed (pushRet_framed start_framed List.mem_cons_self))
  | jsrW | jsrA => exact retireAt_framed (pushRet_framed start_framed List.mem_cons_self)
  | jsriA =>
    exact retireAt_framed (pushRet_framed (readIndA_framed start_framed) (spReg_mem_of_flg_eq List.mem_cons_self (by simp)))
  | jsriW =>
    exact retireAt_framed (pushRet_framed (readIndW_framed start_framed) (spReg_mem_of_flg_eq List.mem_cons_self (by simp)))
  | rts => exact retireAt_framed (popRet_framed start_framed List.mem_cons_self)
  | reit => exact retireAt_framed (interruptReturn_framed start_framed List.mem_cons_self)
  | brk => exact execBrk_framed start_framed List.mem_cons_self
  | und => exact softwareInterrupt_framed start_framed List.mem_cons_self
  | into => exact execInto_framed start_framed (List.Subset.refl _)
  | int => exact execInt_framed start_framed (List.Subset.refl _)
  | pushBS | pushWS | pushG => exact retire_framed (pushOperand_framed start_framed List.mem_cons_self)
  | pusha | pushc => exact retire_framed (push16_framed start_framed List.mem_cons_self)
  | pushImm imm =>
    cases imm with
    | b v => exact retire_framed (push8_framed start_framed List.mem_cons_self)
    | w v => exact retire_framed (push16_framed start_framed List.mem_cons_self)
  | addQSp => exact retire_framed (addToSp_framed start_framed List.mem_cons_self)
  | addImmSp imm => cases imm <;> exact retire_framed (addToSp_framed start_framed List.mem_cons_self)
  | pushm => exact execPushm_framed start_framed List.mem_cons_self
  | popm => exact execPopm_framed start_framed rfl (List.Subset.refl _)
  | enter => exact execEnter_framed start_framed rfl (List.Subset.refl _)
  | exitd => exact execExitd_framed start_framed rfl (List.Subset.refl _)
  | stctx => exact execStctx_framed start_framed List.mem_cons_self
  | ldctx => exact execLdctx_framed start_framed rfl (List.Subset.refl _)
  -- the one-shot inhibit (R49, R673) and the halt (R48)
  | ldc =>
    exact retire_framed (inhibit_framed (setCreg_framed (readSrc16_framed start_framed) (by simp)
      (cregRegs_subset_of_flg_eq (List.Subset.refl _) (by simp))))
  | ldcImm => exact retire_framed (inhibit_framed (setCreg_framed start_framed rfl (List.Subset.refl _)))
  | popc => exact retire_framed (inhibit_framed (popToCreg_framed start_framed rfl (List.Subset.refl _)))
  | ldintb =>
    exact retire_framed (inhibit_framed (setIntbLow_framed (inhibit_framed (setIntbHigh_framed start_framed (by simp [Instr.writes])))
      (by simp [Instr.writes])))
  | wait => exact retire_framed (wait_framed start_framed)

/-- Settles O12: the registers' half of `exec_framed`. -/
theorem registersKept : Obligations.RegistersKept := by
  intro i s t h
  obtain ⟨hregs, hother⟩ := (exec_framed i s t h).registers
  exact ⟨hregs, hother⟩

/-- Settles O15: the control half of `exec_framed`. -/
theorem controlKept : Obligations.ControlKept := by
  intro i s t h
  have hc := (exec_framed i s t h).control
  obtain ⟨hnmi, hdbc, hwdt, hir⟩ := hc.requests
  exact ⟨hc.waiting, hc.inhibitOnce, hc.boundaryTaken, hc.stepReq, hc.resetReq, hnmi, hdbc, hwdt, hir, hc.layout, hc.log, hc.unseen⟩

/-! ### Reset -/

/-- Every register is 0 after reset, in both banks (R51, R662, log 9). -/
theorem reset_reg (b : Bool) (r : Reg) : State.reset.reg b r = 0 := by
  cases b <;> cases r <;> rfl

/-- Every flag is 0 after reset (R51). -/
theorem reset_flag (x : Flag) : Flg.flag State.reset.flg x = false := by
  cases x <;> rfl

/-- The CPU is not halted after reset, so the two clauses about a halt ask nothing. -/
theorem reset_inv : State.reset.Inv where
  memory := reset_memory_wf
  haltInhibit := nofun
  haltTaken := nofun

/-- Settles O9: the invariant, the registers, the flags and IPL, and the inhibit (R663) one by one. -/
theorem resetState : Obligations.ResetState :=
  ⟨reset_inv, reset_reg, reset_flag, rfl, rfl, rfl⟩

end Sys2Proof.Machine
end


section
/-! SUPPORT. What every instruction leaves of memory: the bytes outside those it stores to, and the canonical form (R60, R69, R70); from it the
memory's frame and the invariant of the step (R580, R615). The lemmas are named `<operation>_storesOnly`: from a state `s` the operation
stores to the listed bytes only. -/

namespace Sys2Proof.Machine

/-! ### A byte stored and read back -/

/-- Settles O11: the rules of a data write and of a data read of plain memory, for writable memory, any other address, and plain memory. -/
theorem storedByteReadBack : Obligations.StoredByteReadBack := by
  intro s a b v hm
  refine ⟨fun hw => ⟨?_, ?_⟩, fun hw => ⟨?_, ?_⟩, fun hi => ?_⟩
  · split
    · next hb => rw [hb]; exact writeByte_peek_same s a v hm hw
    · next hb => exact writeByte_peek_ne s a b v hb
  · have himage : (writeByte s a v).layout.inImage a = true := by
      rw [writeByte_layout]; exact Layout.inImage_of_isWritable hw
    rw [readByte_fst _ _ himage, writeByte_peek_same s a v hm hw]
  · exact writeByte_peek_not_writable s a b v hw
  · simp [writeByte, hw]
  · exact Prod.ext (readByte_fst s a hi) (afterRead_plain s a hi)

/-! ### Operations that store nothing -/

@[simp] theorem compareG_mem (op : Compare) (sz : Size) (src dst : Operand) (s : State) : (compareG op sz src dst s).mem = s.mem := by
  cases sz <;> simp [compareG]

@[simp] theorem compareImm_mem (op : Compare) (imm : Imm) (dst : Operand) (s : State) : (compareImm op imm dst s).mem = s.mem := by
  cases imm <;> simp [compareImm]

@[simp] theorem compareQ_mem (op : Compare) (sz : Size) (imm : BitVec 4) (dst : Operand) (s : State) :
    (compareQ op sz imm dst s).mem = s.mem := by
  cases sz <;> simp [compareQ]

@[simp] theorem addToSp_mem (v : Word) (s : State) : (addToSp v s).mem = s.mem := by
  simp [addToSp]

@[simp] theorem decimal8_mem (op : Decimal) (carry : Nat → Int → Bool) (x : Byte) (s : State) : (decimal8 op carry x s).mem = s.mem := by
  unfold decimal8; split <;> simp

@[simp] theorem decimal16_mem (op : Decimal) (carry : Nat → Int → Bool) (x : Word) (s : State) : (decimal16 op carry x s).mem = s.mem := by
  unfold decimal16; split <;> simp

@[simp] theorem decimalReg_mem (op : Decimal) (carry : Nat → Int → Bool) (sz : Size) (s : State) :
    (decimalReg op carry sz s).mem = s.mem := by
  cases sz <;> simp [decimalReg]

@[simp] theorem decimalImm_mem (op : Decimal) (carry : Nat → Int → Bool) (imm : Imm) (s : State) :
    (decimalImm op carry imm s).mem = s.mem := by
  cases imm <;> simp [decimalImm]

@[simp] theorem divide8_mem (k : DivKind) (x : Byte) (s : State) : (divide8 k x s).mem = s.mem := by
  unfold divide8; split <;> simp

@[simp] theorem divide16_mem (k : DivKind) (x : Word) (s : State) : (divide16 k x s).mem = s.mem := by
  unfold divide16; split <;> simp

@[simp] theorem divideG_mem (k : DivKind) (sz : Size) (src : Operand) (s : State) : (divideG k sz src s).mem = s.mem := by
  cases sz <;> simp [divideG]

@[simp] theorem divideImm_mem (k : DivKind) (imm : Imm) (s : State) : (divideImm k imm s).mem = s.mem := by
  cases imm <;> simp [divideImm]

@[simp] theorem rmpaSum_snd_mem (sz : Size) (s : State) : (rmpaSum sz s).2.mem = s.mem := by
  cases sz <;> simp [rmpaSum]

@[simp] theorem setAccumulator_mem (sz : Size) (acc : Int) (s : State) : (setAccumulator sz acc s).mem = s.mem := by
  cases sz <;> simp [setAccumulator]

@[simp] theorem shiftLongImm_mem (k : ShiftKind) (p : Pair) (c : ShiftCount) (s : State) : (shiftLongImm k p c s).mem = s.mem := by
  simp [shiftLongImm]

@[simp] theorem shiftLongR1H_mem (k : ShiftKind) (p : Pair) (s : State) : (shiftLongR1H k p s).mem = s.mem := by
  unfold shiftLongR1H
  dsimp only
  split
  · rfl
  · split <;> simp

@[simp] theorem readBit_snd_mem (s : State) (p : BitPlace) : (readBit s p).2.mem = s.mem := by
  cases p <;> simp [readBit]

@[simp] theorem combineBit_mem (f : Bool → Bool → Bool) (p : BitPlace) (s : State) : (combineBit f p s).mem = s.mem := by
  simp [combineBit]

@[simp] theorem testBit_mem (c : Bool → Bool) (p : BitPlace) (s : State) : (testBit c p s).mem = s.mem := by
  simp [testBit]

@[simp] theorem setCreg_mem (s : State) (c : CReg) (v : Word) : (s.setCreg c v).mem = s.mem := by
  cases c <;> simp [State.setCreg]

@[simp] theorem readIndW_snd_mem (s : State) (x : IndW) : (readIndW s x).2.mem = s.mem := by
  cases x <;> simp [readIndW]

@[simp] theorem readIndA_snd_mem (s : State) (x : IndA) : (readIndA s x).2.mem = s.mem := by
  cases x <;> simp [readIndA]

@[simp] theorem readIndW_snd_sp (s : State) (x : IndW) : (readIndW s x).2.sp = s.sp := by
  cases x <;> simp [readIndW]

@[simp] theorem readIndA_snd_sp (s : State) (x : IndA) : (readIndA s x).2.sp = s.sp := by
  cases x <;> simp [readIndA]

@[simp] theorem specialPageTarget_snd_mem (s : State) (n : Byte) : (specialPageTarget s n).2.mem = s.mem := by
  simp [specialPageTarget]

@[simp] theorem brkVector_snd_mem (s : State) : (brkVector s).2.mem = s.mem := by
  simp [brkVector]

@[simp] theorem brkVector_snd_isp (s : State) : (brkVector s).2.isp = s.isp := by
  simp [brkVector]

/-! ### Memory before and after -/

/-- From `s` to `t` every byte of memory outside `l` keeps its value, and memory its canonical form. -/
structure StoresOnly (s t : State) (l : List Addr) : Prop where
  kept : ∀ a, a ∉ l → t.peek a = s.peek a
  canonical : Memory.wf s.mem = true → Memory.wf t.mem = true

/-- Every state that the result answers differs from `s` in the bytes `l` only. -/
def StoresNext (s : State) (r : Result) (l : List Addr) : Prop :=
  ∀ t, r = .next t → StoresOnly s t l

section
variable {l : List Addr} {s u t : State}

theorem storesOnly_of_mem_eq (h : t.mem = s.mem) : StoresOnly s t l :=
  ⟨fun a _ => by simp [State.peek, h], fun hm => h ▸ hm⟩

theorem StoresOnly.trans (h : StoresOnly s u l) (h' : StoresOnly u t l) : StoresOnly s t l :=
  ⟨fun a ha => (h'.kept a ha).trans (h.kept a ha), fun hm => h'.canonical (h.canonical hm)⟩

/-- What only registers, flags or the platform see after the last store. -/
theorem StoresOnly.thenUnseen (h : StoresOnly s u l) (ht : t.mem = u.mem) : StoresOnly s t l :=
  h.trans (storesOnly_of_mem_eq ht)

/-- What only registers, flags or the platform see before the first store. -/
theorem StoresOnly.afterUnseen (h : StoresOnly u t l) (hu : u.mem = s.mem) : StoresOnly s t l :=
  (storesOnly_of_mem_eq hu).trans h

theorem StoresNext.afterUnseen {r : Result} (h : StoresNext u r l) (hu : u.mem = s.mem) : StoresNext s r l :=
  fun t ht => (h t ht).afterUnseen hu

theorem retireAt_storesOnly {i : Instr} {a : Addr} (h : StoresOnly s u l) : StoresNext s (retireAt i a u) l := by
  intro t ht
  obtain ⟨-, rfl⟩ := (retireAt_next i a u t).1 ht
  exact h.thenUnseen rfl

theorem retire_storesOnly {i : Instr} (h : StoresOnly s u l) : StoresNext s (retire i u) l := retireAt_storesOnly h

theorem retireAt_of_mem_eq {i : Instr} {a : Addr} (h : u.mem = s.mem) : StoresNext s (retireAt i a u) l :=
  retireAt_storesOnly (storesOnly_of_mem_eq h)

theorem retire_of_mem_eq {i : Instr} (h : u.mem = s.mem) : StoresNext s (retire i u) l := retireAt_of_mem_eq h

end

/-! ### Stores and pushes -/

theorem bytesFrom_one (b : Addr) : bytesFrom b 1 = [b] := by
  simp [bytesFrom]

section
variable (s : State)

theorem writeByte_storesOnly (b : Addr) (v : Byte) : StoresOnly s (writeByte s b v) (bytesFrom b 1) where
  kept a h := writeByte_peek_outside s b v a h
  canonical := writeByte_wf s b v

theorem write16_storesOnly (b : Addr) (v : Word) : StoresOnly s (write16 s b v) (bytesFrom b 2) where
  kept a h := write16_peek_outside s b v a h
  canonical := write16_wf s b v

theorem write24_storesOnly (b : Addr) (v : BitVec 24) : StoresOnly s (write24 s b v) (bytesFrom b 3) where
  kept a h := by
    simp only [mem_bytesFrom_three, not_or] at h
    obtain ⟨h0, h1, h2⟩ := h
    rw [write24, writeByte_peek_ne _ _ _ _ h2, write16_peek_ne _ _ _ _ h0 h1]
  canonical := write24_wf s b v

theorem push8_storesOnly (v : Byte) : StoresOnly s (push8 s v) (bytesFrom (zext20 (s.sp - 1)) 1) where
  kept a h := push8_peek_ne s v a (by simpa [mem_bytesFrom_one] using h)
  canonical := push8_wf s v

theorem push16_storesOnly (v : Word) : StoresOnly s (push16 s v) (wordBelow s.sp) where
  kept a h := push16_peek_outside s v a h
  canonical := push16_wf s v

theorem pushRet_storesOnly (a : Addr) : StoresOnly s (pushRet s a) (returnBelow s.sp) where
  kept b h := pushRet_peek_outside s a b h
  canonical := pushRet_wf s a

theorem storeRegs_storesOnly (l : RegList) (p : Word) : StoresOnly s (storeRegs l s p).1 (wordsBelow p (RegList.count l)) where
  kept a h := storeRegs_peek l s p a h
  canonical := storeRegs_wf l s p

theorem interruptSequence_storesOnly (vec ret : Addr) (clearU : Bool) (lvl : Option (BitVec 3)) :
    StoresOnly s (interruptSequence s vec ret clearU lvl) (frameBelow (if clearU then s.isp else s.sp)) where
  kept a h := interruptSequence_peek s vec ret clearU lvl a h
  canonical := interruptSequence_wf s vec ret clearU lvl

theorem pushOperand_storesOnly (sz : Size) (src : Operand) :
    StoresOnly s (pushOperand sz src s) (bytesFrom (zext20 (s.sp - BitVec.ofNat 16 (sizeBytes sz))) (sizeBytes sz)) where
  kept a h := pushOperand_peek sz src s a h
  canonical h := by
    cases sz with
    | b => exact push8_wf _ _ (by simpa using h)
    | w => exact push16_wf _ _ (by simpa using h)

/-! ### Destinations -/

theorem writeDest8_storesOnly (dst : Operand) (v : Byte) : StoresOnly s (writeDest8 s dst v) (s.operandBytes 1 dst) where
  kept a h := writeDest8_peek v dst s a h
  canonical := writeDest8_wf s dst v

theorem writeDest16_storesOnly (dst : Operand) (v : Word) : StoresOnly s (writeDest16 s dst v) (s.operandBytes 2 dst) where
  kept a h := writeDest16_peek v dst s a h
  canonical := writeDest16_wf s dst v

theorem update8_storesOnly (op : Binary) (x : Byte) (dst : Operand) : StoresOnly s (update8 op x dst s) (s.operandBytes 1 dst) where
  kept a h := update8_peek op x dst s a h
  canonical := update8_wf op x dst s

theorem update16_storesOnly (op : Binary) (x : Word) (dst : Operand) : StoresOnly s (update16 op x dst s) (s.operandBytes 2 dst) where
  kept a h := update16_peek op x dst s a h
  canonical := update16_wf op x dst s

theorem updateG_storesOnly (op : Binary) (sz : Size) (src dst : Operand) :
    StoresOnly s (updateG op sz src dst s) (s.operandBytes (sizeBytes sz) dst) where
  kept a h := updateG_peek op sz src dst s a h
  canonical h := by
    cases sz with
    | b => exact update8_wf op _ dst _ (by simpa using h)
    | w => exact update16_wf op _ dst _ (by simpa using h)

theorem updateImm_storesOnly (op : Binary) (imm : Imm) (dst : Operand) :
    StoresOnly s (updateImm op imm dst s) (s.operandBytes (sizeBytes imm.size) dst) := by
  cases imm with
  | b v => exact update8_storesOnly s op v dst
  | w v => exact update16_storesOnly s op v dst

theorem updateQ_storesOnly (op : Binary) (sz : Size) (imm : BitVec 4) (dst : Operand) :
    StoresOnly s (updateQ op sz imm dst s) (s.operandBytes (sizeBytes sz) dst) := by
  cases sz with
  | b => exact update8_storesOnly s op _ dst
  | w => exact update16_storesOnly s op _ dst

theorem updateOne_storesOnly (op : Binary) (sz : Size) (dst : Operand) :
    StoresOnly s (updateOne op sz dst s) (s.operandBytes (sizeBytes sz) dst) := by
  cases sz with
  | b => exact update8_storesOnly s op 0 dst
  | w => exact update16_storesOnly s op 0 dst

theorem shiftR1H_storesOnly (k : ShiftKind) (sz : Size) (dst : Operand) :
    StoresOnly s (shiftR1H k sz dst s) (if s.byte .r1hR3 = 0 then [] else s.operandBytes (sizeBytes sz) dst) where
  kept a h := shiftR1H_peek k sz dst s a h
  canonical h := by
    unfold shiftR1H
    dsimp only
    split
    · exact h
    · split
      · exact (updateOne_storesOnly s _ sz dst).canonical h
      · exact (updateOne_storesOnly _ _ sz dst).canonical (by simpa using h)

theorem exchange_storesOnly (sz : Size) (r : DReg) (dst : Operand) :
    StoresOnly s (exchange sz r dst s) (s.operandBytes (sizeBytes sz) dst) where
  kept a h := exchange_peek sz r dst s a h
  canonical h := by
    cases sz with
    | b => simpa [exchange] using writeDest8_wf _ dst _ (by simpa using h)
    | w => simpa [exchange] using writeDest16_wf _ dst _ (by simpa using h)

theorem popOperand_storesOnly (sz : Size) (dst : Operand) :
    StoresOnly s (popOperand sz dst s) (s.operandBytes (sizeBytes sz) dst) where
  kept a h := popOperand_peek sz dst s a h
  canonical h := by
    cases sz with
    | b => exact writeDest8_wf _ dst _ (by simpa using h)
    | w => exact writeDest16_wf _ dst _ (by simpa using h)

/-! ### Moves -/

theorem move8_storesOnly (x : Byte) (dst : Operand) : StoresOnly s (move8 x dst s) (s.operandBytes 1 dst) where
  kept a h := move8_peek x dst s a h
  canonical h := by
    cases dst with
    | dreg r => simpa [move8] using h
    | areg r => simpa [move8] using h
    | mem m => exact writeByte_wf s (s.ea m) x h

theorem move16_storesOnly (x : Word) (dst : Operand) : StoresOnly s (move16 x dst s) (s.operandBytes 2 dst) :=
  (writeDest16_storesOnly s dst x).thenUnseen rfl

theorem moveG_storesOnly (sz : Size) (src dst : Operand) :
    StoresOnly s (moveG sz src dst s) (s.operandBytes (sizeBytes sz) dst) where
  kept a h := moveG_peek sz src dst s a h
  canonical h := by
    cases sz with
    | b => exact (move8_storesOnly _ _ dst).canonical (by simpa using h)
    | w => exact (move16_storesOnly _ _ dst).canonical (by simpa using h)

theorem moveFrom_storesOnly (sz : Size) (b : Addr) (dst : Operand) :
    StoresOnly s (moveFrom sz b dst s) (s.operandBytes (sizeBytes sz) dst) where
  kept a h := moveFrom_peek sz b dst s a h
  canonical h := by
    cases sz with
    | b => exact (move8_storesOnly _ _ dst).canonical (by simpa using h)
    | w => exact (move16_storesOnly _ _ dst).canonical (by simpa using h)

theorem moveImm_storesOnly (imm : Imm) (dst : Operand) :
    StoresOnly s (moveImm imm dst s) (s.operandBytes (sizeBytes imm.size) dst) := by
  cases imm with
  | b v => exact move8_storesOnly s v dst
  | w v => exact move16_storesOnly s v dst

theorem moveToSp_storesOnly (sz : Size) (src : Operand) (d : Byte) :
    StoresOnly s (moveToSp sz src d s) (bytesFrom (s.eaSp d) (sizeBytes sz)) where
  kept a h := moveToSp_peek sz src d s a h
  canonical h := by
    cases sz with
    | b => exact writeByte_wf _ _ _ (by simpa using h)
    | w => exact write16_wf _ _ _ (by simpa using h)

theorem storeExtended_storesOnly (sz : Size) (src : Operand) (b : Addr) :
    StoresOnly s (storeExtended sz src b s) (bytesFrom b (sizeBytes sz)) where
  kept a h := storeExtended_peek sz src b s a h
  canonical h := by
    cases sz with
    | b => exact writeByte_wf _ _ _ (by simpa using h)
    | w => exact write16_wf _ _ _ (by simpa using h)

/-! ### Products, sign extension, bits -/

theorem multiply8_wf (signed : Bool) (x : Byte) (dst : Operand) (h : Memory.wf s.mem = true) :
    Memory.wf (multiply8 signed x dst s).mem = true := by
  cases dst with
  | dreg r => cases r <;> simpa [multiply8] using h
  | areg r => simpa [multiply8] using h
  | mem m => exact write16_wf _ _ _ (by simpa using h)

theorem multiply16_wf (signed : Bool) (x : Word) (dst : Operand) (h : Memory.wf s.mem = true) :
    Memory.wf (multiply16 signed x dst s).mem = true := by
  cases dst with
  | dreg r => cases r <;> simpa [multiply16] using h
  | areg r => cases r <;> simpa [multiply16] using h
  | mem m => exact write32_wf _ _ _ (by simpa using h)

theorem multiplyG_storesOnly (signed : Bool) (sz : Size) (src dst : Operand) :
    StoresOnly s (multiplyG signed sz src dst s) (s.operandBytes (2 * sizeBytes sz) dst) where
  kept a h := multiplyG_peek signed sz src dst s a h
  canonical h := by
    cases sz with
    | b => exact multiply8_wf _ signed _ dst (by simpa using h)
    | w => exact multiply16_wf _ signed _ dst (by simpa using h)

theorem multiplyImm_storesOnly (signed : Bool) (imm : Imm) (dst : Operand) :
    StoresOnly s (multiplyImm signed imm dst s) (s.operandBytes (2 * sizeBytes imm.size) dst) where
  kept a h := multiplyImm_peek signed imm dst s a h
  canonical h := by
    cases imm with
    | b v => exact multiply8_wf s signed v dst h
    | w v => exact multiply16_wf s signed v dst h

theorem extendByte_storesOnly (dst : Operand) : StoresOnly s (extendByte dst s) (s.operandBytes 2 dst) where
  kept a h := extendByte_peek dst s a h
  canonical h := by
    cases dst with
    | dreg r => cases r <;> simpa [extendByte] using h
    | areg r => exact h
    | mem m => exact write16_wf _ _ _ (by simpa using h)

theorem updateBit_storesOnly (f : Bool → Bool) (p : BitPlace) : StoresOnly s (updateBit f p s) p.bytes where
  kept a h := updateBit_peek f p s a h
  canonical h := by
    cases p with
    | dreg r k => simpa [updateBit] using h
    | areg r k => simpa [updateBit] using h
    | mem b k => exact writeByte_wf _ _ _ (by simpa using h)

theorem testAndPut_storesOnly (v : Bool) (p : BitPlace) : StoresOnly s (testAndPut v p s) p.bytes :=
  (updateBit_storesOnly s _ p).thenUnseen rfl

/-! ### Strings and sums of products: nothing is stored where R3 is 0 (R412, R500) -/

theorem copyElement_storesOnly (sz : Size) :
    StoresOnly s (copyElement sz s) (bytesFrom (zext20 (s.areg .a1)) (sizeBytes sz)) where
  kept a h := copyElement_peek sz s a h
  canonical h := by
    cases sz with
    | b => exact writeByte_wf _ _ _ (by simpa using h)
    | w => exact write16_wf _ _ _ (by simpa using h)

theorem endIteration_storesOnly {l : List Addr} {i : Instr} {s v t : State} (h : StoresOnly s t l) :
    StoresNext s (endIteration i v t) l := by
  have ht := h.thenUnseen (setWord_mem t .r1hR3 (v.word .r1hR3 - 1))
  unfold endIteration
  dsimp only
  split
  · exact retire_storesOnly ht
  · exact retireAt_storesOnly ht

theorem execSmovf_storesOnly (sz : Size) :
    StoresNext s (execSmovf sz s) (if s.word .r1hR3 = 0 then [] else bytesFrom (zext20 (s.areg .a1)) (sizeBytes sz)) := by
  unfold execSmovf
  split
  · exact retire_of_mem_eq rfl
  · refine endIteration_storesOnly ((copyElement_storesOnly s sz).thenUnseen ?_)
    simp only [setAreg_mem]
    split <;> simp

theorem execSmovb_storesOnly (sz : Size) :
    StoresNext s (execSmovb sz s) (if s.word .r1hR3 = 0 then [] else bytesFrom (zext20 (s.areg .a1)) (sizeBytes sz)) := by
  unfold execSmovb
  split
  · exact retire_of_mem_eq rfl
  · refine endIteration_storesOnly ((copyElement_storesOnly s sz).thenUnseen ?_)
    simp only [setAreg_mem]
    split <;> simp

theorem execSstr_storesOnly (sz : Size) :
    StoresNext s (execSstr sz s) (if s.word .r1hR3 = 0 then [] else bytesFrom (zext20 (s.areg .a1)) (sizeBytes sz)) := by
  unfold execSstr
  split
  · exact retire_of_mem_eq rfl
  · cases sz with
    | b => exact endIteration_storesOnly ((writeByte_storesOnly s _ _).thenUnseen (setAreg_mem ..))
    | w => exact endIteration_storesOnly ((write16_storesOnly s _ _).thenUnseen (setAreg_mem ..))

theorem execRmpa_storesOnly {l : List Addr} (sz : Size) : StoresNext s (execRmpa sz s) l := by
  unfold execRmpa
  split
  · exact retire_of_mem_eq rfl
  · dsimp only
    split
    · split
      · exact retire_of_mem_eq (by simp)
      · exact retireAt_of_mem_eq (by simp)
    · exact retire_of_mem_eq (by simp)

/-! ### Software interrupts -/

theorem softwareInterrupt_storesOnly (i : Instr) (vec : Addr) (clearU : Bool) :
    StoresNext s (softwareInterrupt i vec clearU s) (frameBelow (if clearU then s.isp else s.sp)) :=
  retireAt_storesOnly (interruptSequence_storesOnly s ..)

theorem execBrk_storesOnly : StoresNext s (execBrk s) (frameBelow s.isp) := by
  have h := softwareInterrupt_storesOnly (brkVector s).2 .brk (brkVector s).1 true
  rw [if_pos rfl, brkVector_snd_isp] at h
  exact h.afterUnseen (brkVector_snd_mem s)

theorem execInto_storesOnly : StoresNext s (execInto s) (if s.flg.o then frameBelow s.isp else []) := by
  unfold execInto
  split
  · exact softwareInterrupt_storesOnly s .into _ true
  · exact retire_of_mem_eq rfl

theorem execInt_storesOnly (n : BitVec 6) : StoresNext s (execInt n s) (frameBelow (if n.toNat ≤ 31 then s.isp else s.sp)) := by
  have h := softwareInterrupt_storesOnly s (.int n) (variableVector s n.toNat) (decide (n.toNat ≤ 31))
  simp only [decide_eq_true_eq] at h
  exact h

/-! ### Every instruction -/

/-- R60, R69 and R70, instruction by instruction: nothing is stored outside the bytes that `Instr.stores` computes. -/
theorem exec_storesOnly (i : Instr) : StoresNext s (exec i s) (Instr.stores s i) := by
  cases i with dsimp only [exec]
  -- a general destination is written
  | addG | subG | adcG | sbbG | andG | orG | xorG => exact retire_storesOnly (updateG_storesOnly ..)
  | addImm | subImm | adcImm | sbbImm | andImm | orImm | xorImm => exact retire_storesOnly (updateImm_storesOnly ..)
  | addQ => exact retire_storesOnly (updateQ_storesOnly ..)
  | neg | adcf | notG | rolc | rorc | rotImm | shlImm | shaImm => exact retire_storesOnly (updateOne_storesOnly ..)
  | abs sz dst =>
    have h := updateOne_storesOnly (draw s).2 (opAbs ((draw s).1.getLsbD 0)) sz dst
    rw [draw_operandBytes] at h
    exact retire_storesOnly (h.afterUnseen (draw_mem s))
  | rotR1H | shlR1H | shaR1H => exact retire_storesOnly (shiftR1H_storesOnly ..)
  | adjnz | sbjnz => exact retireAt_storesOnly (updateQ_storesOnly ..)
  | movG => exact retire_storesOnly (moveG_storesOnly ..)
  | movGImm => exact retire_storesOnly (moveImm_storesOnly ..)
  | movQ sz imm dst =>
    cases sz with
    | b => exact retire_storesOnly (move8_storesOnly ..)
    | w => exact retire_storesOnly (move16_storesOnly ..)
  | ldeAbs20 | ldeDsp20 | ldeA1A0 | movFromSp => exact retire_storesOnly (moveFrom_storesOnly ..)
  | stc => exact retire_storesOnly (writeDest16_storesOnly ..)
  | movDirFromR0L dir dst =>
    have h := writeDest8_storesOnly (readSrc8 s dst).2 dst (mergeNibble dir (s.byte .r0lR0) (readSrc8 s dst).1)
    rw [readSrc8_operandBytes] at h
    exact retire_storesOnly (h.afterUnseen (readSrc8_snd_mem s dst))
  | xchg => exact retire_storesOnly (exchange_storesOnly ..)
  | popG => exact retire_storesOnly (popOperand_storesOnly ..)
  | mulG | muluG => exact retire_storesOnly (multiplyG_storesOnly ..)
  | mulImm | muluImm => exact retire_storesOnly (multiplyImm_storesOnly ..)
  | extsB => exact retire_storesOnly (extendByte_storesOnly ..)
  -- a short destination is written (R105)
  | addSSrcHalf | subSSrcHalf | andSSrcHalf | orSSrcHalf => exact retire_storesOnly (updateG_storesOnly ..)
  | movSSrcHalf | movSSrcA => exact retire_storesOnly (moveG_storesOnly ..)
  | movWSImmA => exact retire_storesOnly (move16_storesOnly ..)
  | movSHalfDest | movBSImmA | movZ | movSImm => exact retire_storesOnly (move8_storesOnly ..)
  | addSImm | subSImm | andSImm | orSImm => exact retire_storesOnly (update8_storesOnly ..)
  | incW | decW | incB | decB | notS => exact retire_storesOnly (updateOne_storesOnly ..)
  | stz _ d =>
    apply retire_storesOnly
    dsimp only [Instr.stores]
    split
    · exact writeDest8_storesOnly ..
    · exact storesOnly_of_mem_eq rfl
  | stnz _ d =>
    apply retire_storesOnly
    dsimp only [Instr.stores]
    split
    · exact storesOnly_of_mem_eq rfl
    · exact writeDest8_storesOnly ..
  | stzx => exact retire_storesOnly (writeDest8_storesOnly ..)
  | popBS | popWS => exact retire_storesOnly (popOperand_storesOnly ..)
  -- a computed address is written
  | steAbs20 | steDsp20 | steA1A0 => exact retire_storesOnly (storeExtended_storesOnly ..)
  | movToSp => exact retire_storesOnly (moveToSp_storesOnly ..)
  | stcPc dst =>
    cases dst with
    | pair p => exact retire_of_mem_eq (setApair_mem ..)
    | mem m => exact retire_storesOnly (write24_storesOnly ..)
  | smovf => exact execSmovf_storesOnly s _
  | smovb => exact execSmovb_storesOnly s _
  | sstr => exact execSstr_storesOnly s _
  | bclrS | bsetS | bnotS | bmcnd | bclrG | bsetG | bnotG => exact retire_storesOnly (updateBit_storesOnly ..)
  | btstc | btsts => exact retire_storesOnly (testAndPut_storesOnly ..)
  -- the stack is written
  | pushBS h =>
    dsimp only [Instr.stores]
    rw [← bytesFrom_one]
    exact retire_storesOnly (push8_storesOnly s (s.byte (Half.dreg h)))
  | pushWS a => exact retire_storesOnly (push16_storesOnly s (s.areg a))
  | pushG => exact retire_storesOnly (pushOperand_storesOnly ..)
  | pusha | pushc => exact retire_storesOnly (push16_storesOnly ..)
  | pushImm imm =>
    cases imm with
    | b v => exact retire_storesOnly (push8_storesOnly ..)
    | w v => exact retire_storesOnly (push16_storesOnly ..)
  | enter => exact retire_storesOnly ((push16_storesOnly s s.fb).thenUnseen (by simp))
  | pushm l => exact retire_storesOnly ((storeRegs_storesOnly s l s.sp).thenUnseen (by simp))
  | stctx n a =>
    have h := storeRegs_storesOnly (readContext s n a).2 (readContext s n a).1.1 s.sp
    exact retire_storesOnly ((h.afterUnseen (readContext_snd_mem s n a)).thenUnseen (by simp))
  | jsrs n => exact retireAt_storesOnly ((pushRet_storesOnly s _).thenUnseen (specialPageTarget_snd_mem ..))
  | jsrW | jsrA => exact retireAt_storesOnly (pushRet_storesOnly ..)
  | jsriA src =>
    have h := pushRet_storesOnly (readIndA s src).2 (s.nextPc (.jsriA src))
    rw [readIndA_snd_sp] at h
    exact retireAt_storesOnly (h.afterUnseen (readIndA_snd_mem s src))
  | jsriW src =>
    have h := pushRet_storesOnly (readIndW s src).2 (s.nextPc (.jsriW src))
    rw [readIndW_snd_sp] at h
    exact retireAt_storesOnly (h.afterUnseen (readIndW_snd_mem s src))
  | brk => exact execBrk_storesOnly s
  | und => exact softwareInterrupt_storesOnly s .und _ true
  | into => exact execInto_storesOnly s
  | int => exact execInt_storesOnly s _
  -- nothing is stored
  | nop | wait => exact retire_of_mem_eq rfl
  | ldipl | bmcndC | fset | fclr => exact retire_of_mem_eq (setFlg_mem ..)
  | cmpSSrcHalf | cmpG | tstG => exact retire_of_mem_eq (compareG_mem ..)
  | cmpSImm => exact retire_of_mem_eq (compare8_mem ..)
  | cmpImm | tstImm => exact retire_of_mem_eq (compareImm_mem ..)
  | cmpQ => exact retire_of_mem_eq (compareQ_mem ..)
  | btstS | bntst | btstG => exact retire_of_mem_eq (testBit_mem ..)
  | band | bnand | bor | bnor | bxor | bnxor => exact retire_of_mem_eq (combineBit_mem ..)
  | extsW => exact retire_of_mem_eq (setPair_mem ..)
  | daddReg | dsubReg | dadcReg | dsbbReg => exact retire_of_mem_eq (decimalReg_mem ..)
  | daddImm | dsubImm | dadcImm | dsbbImm => exact retire_of_mem_eq (decimalImm_mem ..)
  | div | divu | divx => exact retire_of_mem_eq (divideG_mem ..)
  | divImm | divuImm | divxImm => exact retire_of_mem_eq (divideImm_mem ..)
  | shlLImm | shaLImm => exact retire_of_mem_eq (shiftLongImm_mem ..)
  | shlLR1H | shaLR1H => exact retire_of_mem_eq (shiftLongR1H_mem ..)
  | rmpa => exact execRmpa_storesOnly s _
  | addQSp => exact retire_of_mem_eq (addToSp_mem ..)
  | addImmSp imm => cases imm <;> exact retire_of_mem_eq (addToSp_mem ..)
  | mova m dst => cases dst <;> exact retire_of_mem_eq (by simp)
  | ldc | ldcImm | ldintb | movDirToR0L | popm | ldctx => exact retire_of_mem_eq (by simp)
  | popc => exact retire_of_mem_eq (by rw [inhibit_mem]; split <;> simp)
  | jmpS | jcndShort | jcndLong | jmpW | jmpA | jmpB => exact retireAt_of_mem_eq rfl
  | jmps => exact retireAt_of_mem_eq (specialPageTarget_snd_mem ..)
  | jmpiA => exact retireAt_of_mem_eq (readIndA_snd_mem ..)
  | jmpiW => exact retireAt_of_mem_eq (readIndW_snd_mem ..)
  | rts => exact retireAt_of_mem_eq (popRet_snd_mem ..)
  | reit => exact retireAt_of_mem_eq (interruptReturn_mem ..)
  | exitd => exact retireAt_of_mem_eq (by simp)

end

/-- Settles O14: the frame's half of `exec_storesOnly`. -/
theorem memoryKept : Obligations.MemoryKept := by
  intro i s t a h ha
  exact (exec_storesOnly s i t h).kept a ha

/-! ### What a step can do (R615) -/

/-- A step that runs an instruction: the bytes at PC decode to it, and it completes from the prepared state. -/
theorem runOne_next {s t : State} (h : runOne s = .next t) :
    ∃ i rest u, decode (s.fetch s.pc fetchLength) = .ok (i, rest) ∧ exec i s.beginInstr = .next u ∧ t = u.endInstr i s := by
  unfold runOne at h
  split at h
  · exact absurd h nofun
  · next i rest hdecode =>
    split at h
    · next u hexec =>
      cases h
      exact ⟨i, rest, u, hdecode, hexec, rfl⟩
    · exact absurd h nofun
    · exact absurd h nofun

/-- All that a step can do: a reset, an accepted interrupt, a halt that goes on, or an instruction. -/
theorem step_next {s t : State} (h : step s = .next t) :
    (s.resetReq = true ∧ t = s.doReset) ∨
    (s.boundaryOpen ∧ ∃ k, s.winner = some k ∧ t = s.accept k) ∨
    (s.boundaryOpen ∧ s.winner = none ∧ s.waiting = true ∧ t = s) ∨
    (s.runsInstr ∧ runOne s = .next t) := by
  unfold step at h
  split at h
  · next hreset =>
    cases h
    exact .inl ⟨hreset, rfl⟩
  · next hreset =>
    rw [Bool.not_eq_true] at hreset
    split at h
    · next hshut =>
      rw [Bool.or_eq_true] at hshut
      exact .inr (.inr (.inr ⟨⟨hreset, hshut.imp_right .inl⟩, h⟩))
    · next hopen =>
      have hboundary : s.boundaryOpen := ⟨hreset, by simpa using hopen⟩
      split at h
      · next k hk =>
        cases h
        exact .inr (.inl ⟨hboundary, k, hk, rfl⟩)
      · next hnone =>
        split at h
        · next hw =>
          cases h
          exact .inr (.inr (.inl ⟨hboundary, hnone, hw, rfl⟩))
        · next hw =>
          rw [Bool.not_eq_true] at hw
          exact .inr (.inr (.inr ⟨⟨hreset, .inr (.inr ⟨hnone, hw⟩)⟩, h⟩))

/-! ### The invariant -/

/-- A halted CPU runs no instruction: with the invariant, what opens a step to an instruction excludes the halt (R580, R615). -/
theorem waiting_of_runsInstr {s : State} (hs : s.Inv) (h : s.runsInstr) : s.waiting = false := by
  obtain ⟨-, hinhibit | htaken | ⟨-, hw⟩⟩ := h
  · exact Bool.eq_false_iff.2 fun hw => by simp [hs.haltInhibit hw] at hinhibit
  · exact Bool.eq_false_iff.2 fun hw => by simp [hs.haltTaken hw] at htaken
  · exact hw

theorem doReset_inv {s : State} (hs : s.Inv) : s.doReset.Inv where
  memory := hs.memory
  haltInhibit := nofun
  haltTaken := nofun

/-- Taking an interrupt ends the halt (R580). -/
theorem accept_inv {s : State} (hs : s.Inv) (k : Hardware) : (s.accept k).Inv := by
  obtain ⟨hw, -⟩ := accept_spec s k
  exact ⟨accept_wf s k hs.memory, fun h => absurd h (by simp [hw]), fun h => absurd h (by simp [hw])⟩

/-- Of the instructions only WAIT halts, and WAIT is none of those that set the inhibit (R48, R673). -/
theorem exec_inv {i : Instr} {s t : State} (hm : Memory.wf s.mem = true) (hw : s.waiting = false) (hi : s.inhibitOnce = false)
    (hb : s.boundaryTaken = false) (h : exec i s = .next t) : t.Inv := by
  have hc := (exec_framed i s t h).control
  refine ⟨(exec_storesOnly s i t h).canonical hm, fun ht => ?_, fun _ => hc.boundaryTaken.trans hb⟩
  have hwait : i = .wait := by simpa [hc.waiting, hw, Instr.allowance] using ht
  rw [hc.inhibitOnce, hi, hwait]
  rfl

theorem endInstr_inv {s : State} (hs : s.Inv) (i : Instr) (r : State) : (s.endInstr i r).Inv :=
  ⟨hs.memory, hs.haltInhibit, hs.haltTaken⟩

/-- Settles O8, by the cases of `step_next`. -/
theorem stepKeepsInvariant : Obligations.StepKeepsInvariant := by
  intro s t hs hstep
  obtain ⟨-, rfl⟩ | ⟨-, k, -, rfl⟩ | ⟨-, -, -, rfl⟩ | ⟨hruns, hrun⟩ := step_next hstep
  · exact doReset_inv hs
  · exact accept_inv hs k
  · exact hs
  · obtain ⟨i, -, u, -, hexec, rfl⟩ := runOne_next hrun
    have hw : s.waiting = false := waiting_of_runsInstr hs hruns
    have hu : u.Inv := exec_inv (s := s.beginInstr) hs.memory hw rfl rfl hexec
    exact endInstr_inv hu i s

end Sys2Proof.Machine
end


section
/-! SUPPORT. What the operand parsers answer on the codes and code bytes that the encoder writes (R103 to R105, R108, R109, R143): each parser reads
its operand back and leaves the bytes that follow. -/

namespace Sys2Proof

/-! ### Parsers in sequence -/

@[simp] theorem chain_ok {α β : Type} (v : α) (t : List Byte) (k : α → List Byte → Parsed β) : chain (.ok (v, t)) k = k v t := rfl

theorem emit_of_wellFormed {i : Instr} (h : i.wellFormed = true) (t : List Byte) : emit i t = .ok (i, t) :=
  if_pos h

/-! ### Fields -/

@[simp] theorem takeByte_cons (x : Byte) (t : List Byte) : takeByte (x :: t) = .ok (x, t) := rfl

@[simp] theorem takeWord_wordBytes (w : Word) (t : List Byte) : takeWord (wordBytes w ++ t) = .ok (w, t) := by
  simp [wordBytes, takeWord]

@[simp] theorem takeAddr_addrBytes (a : Addr) (t : List Byte) : takeAddr (addrBytes a ++ t) = .ok (a, t) := by
  simp only [addrBytes, takeAddr, List.cons_append, List.nil_append, Except.ok.injEq, Prod.mk.injEq, and_true]
  ext k hk
  grind

@[simp] theorem takeImm_bytes (v : Imm) (t : List Byte) : takeImm v.size (v.bytes ++ t) = .ok (v, t) := by
  cases v <;> simp [takeImm, Imm.size, Imm.bytes]

/-! ### Operand codes -/

@[simp] theorem dregOf_code (r : DReg) : dregOf r.code = r := by cases r <;> rfl

@[simp] theorem movaDestOf_code (d : MovaDest) : movaDestOf d.code = some d := by
  rcases d with r | a
  · cases r <;> rfl
  · cases a <;> rfl

@[simp] theorem cregOf_code (c : CReg) : cregOf c.code = some c := by cases c <;> rfl

@[simp] theorem condOfByte_byte (c : Cond) : condOfByte c.byte.toNat = some c := by cases c <;> rfl

theorem DReg.code_lt (r : DReg) : r.code < 4 := by cases r <;> decide

theorem AReg.code_lt (a : AReg) : a.code < 2 := by cases a <;> decide

/-- The shift count is in the low nibble, whatever the high nibble holds (R108 c). -/
theorem shiftCountOf_mod (n : Nat) : shiftCountOf (n % 16) = shiftCountOf n := by
  have hless1 : BitVec.ofNat 3 (n % 16) = BitVec.ofNat 3 n := by
    apply BitVec.eq_of_toNat_eq
    simp only [BitVec.toNat_ofNat]
    omega
  simp [shiftCountOf, hless1]

@[simp] theorem shiftCountOf_code (k : ShiftCount) : shiftCountOf k.code = k := by
  obtain ⟨right, less1⟩ := k
  revert right less1
  decide

/-- The bits of a byte that is put together bit by bit. -/
theorem getLsbD_byteOfBits (b7 b6 b5 b4 b3 b2 b1 b0 : Bool) : let x := byteOfBits b7 b6 b5 b4 b3 b2 b1 b0
    x.getLsbD 7 = b7 ∧ x.getLsbD 6 = b6 ∧ x.getLsbD 5 = b5 ∧ x.getLsbD 4 = b4 ∧
    x.getLsbD 3 = b3 ∧ x.getLsbD 2 = b2 ∧ x.getLsbD 1 = b1 ∧ x.getLsbD 0 = b0 := by
  revert b7 b6 b5 b4 b3 b2 b1 b0
  decide

@[simp] theorem popmList_popmByte (l : RegList) : popmList l.popmByte = l := by
  simp only [popmList, RegList.popmByte, getLsbD_byteOfBits]

@[simp] theorem pushmList_pushmByte (l : RegList) : pushmList l.pushmByte = l := by
  simp only [pushmList, RegList.pushmByte, getLsbD_byteOfBits]

/-! ### Operands -/

theorem Mem.code_range (m : Mem) : 6 ≤ m.code ∧ m.code < 16 := by
  cases m with
  | ind a | dsp8A a d | dsp16A a d =>
    have := a.code_lt
    simp only [Mem.code]
    omega
  | dsp8SB d | dsp8FB d | dsp16SB d | abs16 d => simp [Mem.code]

theorem Operand.code_lt (x : Operand) : x.code < 16 := by
  cases x with
  | dreg r => exact r.code_lt.trans (by decide)
  | areg a =>
    have := a.code_lt
    simp only [Operand.code]
    omega
  | mem m => exact m.code_range.2

theorem BitOperand.code_lt (x : BitOperand) : x.code < 16 := by
  cases x with
  | dreg r k => exact r.code_lt.trans (by decide)
  | areg a k | ind a | base8A a b | base16A a b =>
    have := a.code_lt
    simp only [BitOperand.code]
    omega
  | base8SB c | base8FB c | base16SB c | base16 c => simp [BitOperand.code]

theorem ShortMem.code_range (m : ShortMem) : 1 ≤ m.code ∧ m.code < 4 := by
  cases m <;> simp [ShortMem.code]

theorem ShortSrc.code_lt (x : ShortSrc) : x.code < 4 := by
  cases x with
  | half => decide
  | mem m => exact m.code_range.2

theorem IndMem.code_range (m : IndMem) : 6 ≤ m.code ∧ m.code < 16 := by
  cases m with
  | mem m => exact m.code_range
  | dsp20A a d =>
    have := a.code_lt
    simp only [IndMem.code]
    omega

theorem IndW.code_lt (x : IndW) : x.code < 16 := by
  cases x with
  | dreg r => exact r.code_lt.trans (by decide)
  | areg a =>
    have := a.code_lt
    simp only [IndW.code]
    omega
  | mem m => exact m.code_range.2

theorem IndA.code_lt (x : IndA) : x.code < 16 := by
  cases x with
  | pair p => cases p <;> decide
  | mem m => exact m.code_range.2

theorem PcDest.code_lt (x : PcDest) : x.code < 16 := by
  cases x with
  | pair p => cases p <;> decide
  | mem m => exact m.code_range.2

@[simp] theorem takeMem_code (m : Mem) (t : List Byte) : takeMem m.code (m.bytes ++ t) = .ok (m, t) := by
  cases m with
  | ind a | dsp8A a d | dsp16A a d => cases a <;> simp [takeMem, Mem.code, Mem.bytes, AReg.code, aregOf]
  | dsp8SB d | dsp8FB d | dsp16SB d | abs16 d => simp [takeMem, Mem.code, Mem.bytes]

@[simp] theorem takeOperand_code (x : Operand) (t : List Byte) : takeOperand x.code (x.bytes ++ t) = .ok (x, t) := by
  cases x with
  | dreg r => simp [takeOperand, Operand.code, Operand.bytes, r.code_lt]
  | areg a => cases a <;> rfl
  | mem m =>
    have hcode := m.code_range.1
    simp [takeOperand, Operand.code, Operand.bytes, show ¬ m.code < 4 by omega, show ¬ m.code < 6 by omega]

/-- The bit number of a register operand is the low nibble of its code byte (R125, log 31). -/
@[simp] theorem setWidth_extractLsb' (k : BitVec 4) : (k.setWidth 8).extractLsb' 0 4 = k := by
  apply BitVec.eq_of_toNat_eq
  simp [BitVec.extractLsb'_toNat, k.isLt]

@[simp] theorem takeBitOperand_code (x : BitOperand) (t : List Byte) : takeBitOperand x.code (x.bytes ++ t) = .ok (x, t) := by
  cases x with
  | dreg r k => cases r <;> simp [takeBitOperand, BitOperand.code, BitOperand.bytes, DReg.code, dregOf]
  | areg a k | ind a | base8A a b | base16A a b =>
    cases a <;> simp [takeBitOperand, BitOperand.code, BitOperand.bytes, AReg.code, aregOf]
  | base8SB c | base8FB c | base16SB c | base16 c => simp [takeBitOperand, BitOperand.code, BitOperand.bytes]

@[simp] theorem takeShortMem_code (m : ShortMem) (t : List Byte) : takeShortMem m.code (m.bytes ++ t) = .ok (m, t) := by
  cases m <;> simp [takeShortMem, ShortMem.code, ShortMem.bytes]

@[simp] theorem takeShortSrc_code (x : ShortSrc) (t : List Byte) : takeShortSrc x.code (x.bytes ++ t) = .ok (x, t) := by
  cases x with
  | half => rfl
  | mem m =>
    have hcode := m.code_range.1
    simp [takeShortSrc, ShortSrc.code, ShortSrc.bytes, show m.code ≠ 0 by omega]

@[simp] theorem takeShortDest_code (d : ShortDest) (t : List Byte) : takeShortDest d.code (d.bytes ++ t) = .ok (d, t) := by
  cases d with
  | half h => cases h <;> rfl
  | mem m => cases m <;> simp [takeShortDest, takeShortMem, ShortDest.code, ShortDest.bytes, ShortMem.code, ShortMem.bytes]

/-- Codes 1100 and 1101 are `dsp:20[An]` here, so `dsp:16[An]` has none (R103, R474). -/
theorem takeIndMem_code {m : IndMem} (h : m.ok = true) (t : List Byte) : takeIndMem m.code (m.bytes ++ t) = .ok (m, t) := by
  cases m with
  | dsp20A a d => cases a <;> simp [takeIndMem, IndMem.code, IndMem.bytes, AReg.code, aregOf]
  | mem m =>
    have hcode : ¬ (m.code = 12 ∨ m.code = 13) := by
      cases m with
      | dsp16A a d => cases h
      | ind a | dsp8A a d =>
        have := a.code_lt
        simp only [Mem.code]
        omega
      | dsp8SB d | dsp8FB d | dsp16SB d | abs16 d => simp [Mem.code]
    simp only [takeIndMem, IndMem.code, IndMem.bytes, if_neg hcode, takeMem_code, chain_ok]

theorem takeIndW_code {x : IndW} (h : x.ok = true) (t : List Byte) : takeIndW x.code (x.bytes ++ t) = .ok (x, t) := by
  cases x with
  | dreg r => simp [takeIndW, IndW.code, IndW.bytes, r.code_lt]
  | areg a => cases a <;> rfl
  | mem m =>
    have hcode := m.code_range.1
    simp [takeIndW, IndW.code, IndW.bytes, show ¬ m.code < 4 by omega, show ¬ m.code < 6 by omega, takeIndMem_code h]

theorem takeIndA_code {x : IndA} (h : x.ok = true) (t : List Byte) : takeIndA x.code (x.bytes ++ t) = .ok (x, t) := by
  cases x with
  | pair p => cases p <;> rfl
  | mem m =>
    have hcode := m.code_range.1
    simp [takeIndA, IndA.code, IndA.bytes, show ¬ m.code < 6 by omega, takeIndMem_code h]

@[simp] theorem takePcDest_code (x : PcDest) (t : List Byte) : takePcDest x.code (x.bytes ++ t) = .ok (x, t) := by
  cases x with
  | pair p => cases p <;> rfl
  | mem m =>
    have hcode := m.code_range.1
    simp [takePcDest, PcDest.code, PcDest.bytes, show ¬ m.code < 6 by omega]

end Sys2Proof
end


section
/-! SUPPORT. The formats of an instruction (R101, R106): for each, the decoder reads back what the encoder wrote, provided that the first-byte map
(R135) or the row of a group (R136 to R141) sends the op-code to the parser of that format. -/

namespace Sys2Proof

/-! ### Op-code bytes -/

theorem byte_toNat {n : Nat} (h : n < 256) : (byte n).toNat = n := by
  rw [byte, BitVec.toNat_ofNat, Nat.mod_eq_of_lt h]

/-- The high nibble of a second byte. -/
theorem byte_div {hi lo : Nat} (hhi : hi < 16) (hlo : lo < 16) : (byte (16 * hi + lo)).toNat / 16 = hi := by
  rw [byte_toNat (by omega)]; omega

/-- The low nibble of a second byte. -/
theorem byte_mod {hi lo : Nat} (hhi : hi < 16) (hlo : lo < 16) : (byte (16 * hi + lo)).toNat % 16 = lo := by
  rw [byte_toNat (by omega)]; omega

@[simp] theorem two_append (first hi lo : Nat) (t rest : List Byte) : two first hi lo t ++ rest = two first hi lo (t ++ rest) := rfl

/-- A two-byte op-code, read by the high nibble of its second byte and then by the low one (R101). -/
theorem decode_two {first hi lo : Nat} {t : List Byte} {P : Nat → List Byte → Parsed Instr} (hhi : hi < 16) (hlo : lo < 16)
    (hdec : ∀ b : Byte, b.toNat / 16 = hi → decode (byte first :: b :: t) = P (b.toNat % 16) t) :
    decode (two first hi lo t) = P lo t := by
  have h := hdec (byte (16 * hi + lo)) (byte_div hhi hlo)
  rwa [byte_mod hhi hlo] at h

theorem sizeOf_add_code {first : Nat} (h : first % 2 = 0) (sz : Size) : sizeOf (first + sz.code) = sz := by
  cases sz
  · exact if_pos h
  · exact if_neg (by simp only [Size.code]; omega)

/-! ### Reading back an operand and what follows it (R106) -/

section
variable (x : Operand) (t : List Byte)

theorem takeOne_code (mk : Operand → Instr) : takeOne mk x.code (x.bytes ++ t) = emit (mk x) t := by
  simp [takeOne]

theorem takeDestImm_code (mk : Imm → Operand → Instr) (v : Imm) :
    takeDestImm mk v.size x.code (x.bytes ++ (v.bytes ++ t)) = emit (mk v x) t := by
  simp [takeDestImm]

theorem takeOneAddr_code (mk : Addr → Operand → Instr) (a : Addr) :
    takeOneAddr mk x.code (x.bytes ++ (addrBytes a ++ t)) = emit (mk a x) t := by
  simp [takeOneAddr]

theorem takeOneByte_code (mk : Byte → Operand → Instr) (d : Byte) :
    takeOneByte mk x.code (x.bytes ++ ([d] ++ t)) = emit (mk d x) t := by
  simp [takeOneByte]

end

theorem takeB_cons (mk : Byte → Instr) (v : Byte) (t : List Byte) : takeB mk (v :: t) = emit (mk v) t := rfl

theorem takeW_wordBytes (mk : Word → Instr) (v : Word) (t : List Byte) : takeW mk (wordBytes v ++ t) = emit (mk v) t := by
  simp [takeW]

theorem takeA_addrBytes (mk : Addr → Instr) (a : Addr) (t : List Byte) : takeA mk (addrBytes a ++ t) = emit (mk a) t := by
  simp [takeA]

theorem takeI_bytes (mk : Imm → Instr) (v : Imm) (t : List Byte) : takeI mk v.size (v.bytes ++ t) = emit (mk v) t := by
  simp [takeI]

/-! ### The formats (R106): each encoder's bytes decode, given the row of the first-byte map -/

section
variable {i : Instr} {rest : List Byte}

/-- G format, two operands. -/
theorem decode_encG {mk : Size → Operand → Operand → Instr} {first : Nat} (heven : first % 2 = 0)
    (hb : ∀ t, decode (byte first :: t) = takeG mk first t) (hw : ∀ t, decode (byte (first + 1) :: t) = takeG mk (first + 1) t)
    {sz : Size} {src dst : Operand} (hwf : (mk sz src dst).wellFormed = true) :
    decode (encG first sz src dst ++ rest) = .ok (mk sz src dst, rest) := by
  have hrow : ∀ t, decode (byte (first + sz.code) :: t) = takeG mk (first + sz.code) t := by cases sz; exacts [hb, hw]
  have hhi := byte_div src.code_lt dst.code_lt
  have hlo := byte_mod src.code_lt dst.code_lt
  simp [encG, two, hrow, takeG, hhi, hlo, sizeOf_add_code heven, emit_of_wellFormed hwf]

/-- Q format: an immediate nibble and an operand. -/
theorem decode_encQ {mk : Size → BitVec 4 → Operand → Instr} {first : Nat} (heven : first % 2 = 0)
    (hb : ∀ t, decode (byte first :: t) = takeQ mk first t) (hw : ∀ t, decode (byte (first + 1) :: t) = takeQ mk (first + 1) t)
    {sz : Size} {v : BitVec 4} {dst : Operand} (hwf : (mk sz v dst).wellFormed = true) :
    decode (encOne first v.toNat sz dst [] ++ rest) = .ok (mk sz v dst, rest) := by
  have hrow : ∀ t, decode (byte (first + sz.code) :: t) = takeQ mk (first + sz.code) t := by cases sz; exacts [hb, hw]
  have hhi := byte_div v.isLt dst.code_lt
  have hlo := byte_mod v.isLt dst.code_lt
  simp [encOne, two, hrow, takeQ, hhi, hlo, sizeOf_add_code heven, emit_of_wellFormed hwf]

theorem ShiftCount.code_lt (k : ShiftCount) : k.code < 16 := by
  have h := k.less1.isLt
  simp only [ShiftCount.code]
  split <;> omega

/-- ROT, SHL and SHA by `#IMM`: a shift count nibble and an operand. -/
theorem decode_encShift {mk : Size → ShiftCount → Operand → Instr} {first : Nat} (heven : first % 2 = 0)
    (hb : ∀ t, decode (byte first :: t) = takeShift mk first t)
    (hw : ∀ t, decode (byte (first + 1) :: t) = takeShift mk (first + 1) t)
    {sz : Size} {k : ShiftCount} {dst : Operand} (hwf : (mk sz k dst).wellFormed = true) :
    decode (encOne first k.code sz dst [] ++ rest) = .ok (mk sz k dst, rest) := by
  have hrow : ∀ t, decode (byte (first + sz.code) :: t) = takeShift mk (first + sz.code) t := by cases sz; exacts [hb, hw]
  have hhi := byte_div k.code_lt dst.code_lt
  have hlo := byte_mod k.code_lt dst.code_lt
  simp [encOne, two, hrow, takeShift, hhi, hlo, sizeOf_add_code heven, emit_of_wellFormed hwf]

/-- A two-byte op-code, and what the row of its group reads after it. -/
theorem decode_row {first hi lo : Nat} {t : List Byte} {P : Nat → List Byte → Parsed Instr} (hhi : hi < 16) (hlo : lo < 16)
    (hrow : ∀ (b : Byte) (u : List Byte), b.toNat / 16 = hi → decode (byte first :: b :: u) = P (b.toNat % 16) u)
    (htake : P lo (t ++ rest) = emit i rest) (hwf : i.wellFormed = true) :
    decode (two first hi lo t ++ rest) = .ok (i, rest) := by
  have h := decode_two (t := t ++ rest) hhi hlo (fun b hb => hrow b _ hb)
  rw [two_append, h, htake, emit_of_wellFormed hwf]

/-- An operand after a second byte, and what the row of the group reads after that. -/
theorem decode_encOne {first hi : Nat} {sz : Size} {x : Operand} {t : List Byte} {P : Nat → List Byte → Parsed Instr}
    (hhi : hi < 16)
    (hrow : ∀ (b : Byte) (u : List Byte), b.toNat / 16 = hi → decode (byte (first + sz.code) :: b :: u) = P (b.toNat % 16) u)
    (htake : P x.code (x.bytes ++ (t ++ rest)) = emit i rest) (hwf : i.wellFormed = true) :
    decode (encOne first hi sz x t ++ rest) = .ok (i, rest) :=
  decode_row hhi x.code_lt hrow (by rw [List.append_assoc, htake]) hwf

/-- A row of a group that reads one operand of any kind and no more. -/
theorem decode_operandRow {α : Type} {take : Nat → List Byte → Parsed α} {mk : α → Instr} {x : α} {first hi lo : Nat} {t : List Byte}
    (hhi : hi < 16) (hlo : lo < 16)
    (hrow : ∀ (b : Byte) (u : List Byte), b.toNat / 16 = hi →
      decode (byte first :: b :: u) = chain (take (b.toNat % 16) u) fun x u => emit (mk x) u)
    (htake : take lo (t ++ rest) = .ok (x, rest)) (hwf : (mk x).wellFormed = true) :
    decode (two first hi lo t ++ rest) = .ok (mk x, rest) :=
  decode_row (P := fun n u => chain (take n u) fun x u => emit (mk x) u) hhi hlo hrow (by rw [htake, chain_ok]) hwf

/-- A bit instruction with nothing after its operand. -/
theorem decode_encBit {mk : BitOperand → Instr} {hi : Nat} {x : BitOperand} (hhi : hi < 16)
    (hrow : ∀ (b : Byte) (u : List Byte), b.toNat / 16 = hi →
      group7E (b :: u) = chain (takeBitOperand (b.toNat % 16) u) fun x u => emit (mk x) u)
    (hwf : (mk x).wellFormed = true) :
    decode (encBit hi x [] ++ rest) = .ok (mk x, rest) :=
  decode_operandRow hhi x.code_lt hrow (by simp) hwf

theorem Half.code_le (h : Half) : h.code ≤ 1 := by cases h <;> decide

theorem halfOf_code (h : Half) : halfOf h.code = h := by cases h <;> rfl

/-- `src,R0L/R0H` (R105 b). -/
theorem decode_encSS {mk : Half → ShortSrc → Instr} {first : Nat}
    (hrow : ∀ k, k < 8 → ∀ t, decode (byte (first + k) :: t) = takeSS mk k t)
    {h : Half} {x : ShortSrc} (hwf : (mk h x).wellFormed = true) : decode (encSS first h x ++ rest) = .ok (mk h x, rest) := by
  have hx := x.code_lt
  have hh := h.code_le
  have hlo : (4 * h.code + x.code) % 4 = x.code := by omega
  have hhi : (4 * h.code + x.code) / 4 = h.code := by omega
  have hk := hrow (4 * h.code + x.code) (by omega) (x.bytes ++ rest)
  simpa [encSS, Nat.add_assoc, takeSS, hlo, hhi, halfOf_code, emit_of_wellFormed hwf] using hk

theorem ShortDest.code_range (d : ShortDest) : 3 ≤ d.code ∧ d.code < 8 := by
  cases d with
  | half h => cases h <;> decide
  | mem m =>
    have := m.code_range
    simp only [ShortDest.code]
    omega

/-- A short form with an immediate. -/
theorem decode_encShortImm {mk : Byte → ShortDest → Instr} {first : Nat}
    (hrow : ∀ k, 3 ≤ k → k < 8 → ∀ t, decode (byte (first + k) :: t) = takeShortImm mk k t)
    {v : Byte} {d : ShortDest} (hwf : (mk v d).wellFormed = true) :
    decode (encShortImm first v d ++ rest) = .ok (mk v d, rest) := by
  simp [encShortImm, hrow d.code d.code_range.1 d.code_range.2, takeShortImm, emit_of_wellFormed hwf]

/-- A short form without an immediate. -/
theorem decode_encShort {mk : ShortDest → Instr} {first : Nat}
    (hrow : ∀ k, 3 ≤ k → k < 8 → ∀ t, decode (byte (first + k) :: t) = takeShort mk k t)
    {d : ShortDest} (hwf : (mk d).wellFormed = true) : decode (encShort first d ++ rest) = .ok (mk d, rest) := by
  simp [encShort, hrow d.code d.code_range.1 d.code_range.2, takeShort, emit_of_wellFormed hwf]

/-- A three-bit field in the first byte, then one code byte. -/
theorem decode_field3 {mk : BitVec 3 → Byte → Instr} {first : Nat}
    (hrow : ∀ k, k < 8 → ∀ t, decode (byte (first + k) :: t) = takeB (mk (BitVec.ofNat 3 k)) t)
    {k : BitVec 3} {d : Byte} (hwf : (mk k d).wellFormed = true) :
    decode ([byte (first + k.toNat), d] ++ rest) = .ok (mk k d, rest) := by
  simp [hrow k.toNat k.isLt, takeB_cons, emit_of_wellFormed hwf]

/-- An immediate after two literal op-code bytes. -/
theorem decode_imm {mk : Imm → Instr} {lo : Nat}
    (hb : ∀ t, decode (two 0x7C 14 lo t) = takeI mk .b t) (hw : ∀ t, decode (two 0x7D 14 lo t) = takeI mk .w t)
    {v : Imm} (hwf : (mk v).wellFormed = true) :
    decode (two (0x7C + v.size.code) 14 lo v.bytes ++ rest) = .ok (mk v, rest) := by
  have hrow : ∀ t, decode (two (0x7C + v.size.code) 14 lo t) = takeI mk v.size t := by cases v; exacts [hb, hw]
  exact (hrow (v.bytes ++ rest)).trans ((takeI_bytes mk v rest).trans (emit_of_wellFormed hwf rest))

end

/-! ### The groups behind their first bytes (R136 to R141) -/

theorem decode_group74 (sz : Size) (t : List Byte) : decode (byte (0x74 + sz.code) :: t) = group74 sz t := by cases sz <;> rfl

theorem decode_group76 (sz : Size) (t : List Byte) : decode (byte (0x76 + sz.code) :: t) = group76 sz t := by cases sz <;> rfl

theorem decode_group7A (sz : Size) (t : List Byte) : decode (byte (0x7A + sz.code) :: t) = group7A (0x7A + sz.code) t := by
  cases sz <;> rfl

theorem decode_group7C {b : Byte} (h : b.toNat / 16 < 14) (t : List Byte) : decode (byte 0x7C :: b :: t) = group7C b.toNat t :=
  if_neg (by omega : ¬ 0xE0 ≤ b.toNat)

theorem decode_group7D {b : Byte} (h : b.toNat / 16 < 14) (t : List Byte) : decode (byte 0x7D :: b :: t) = group7D b.toNat t :=
  if_neg (by omega : ¬ 0xE0 ≤ b.toNat)

end Sys2Proof
end


section
/-! SUPPORT. The decoder reads back every instruction: the instructions whose format is their own, then all of them. -/

namespace Sys2Proof

/-! ### Instructions with a format of their own -/

section
variable {rest : List Byte}

theorem decode_adjnz {sz : Size} {v : BitVec 4} {dst : Operand} {d : Byte} (hwf : (Instr.adjnz sz v dst d).wellFormed = true) :
    decode (encode (.adjnz sz v dst d) ++ rest) = .ok (.adjnz sz v dst d, rest) := by
  have hrow : ∀ t, decode (byte (0xF8 + sz.code) :: t) = takeAdjnz (0xF8 + sz.code) t := by cases sz <;> exact fun _ => rfl
  have hhi := byte_div v.isLt dst.code_lt
  have hlo := byte_mod v.isLt dst.code_lt
  simp [encode, encOne, two, hrow, takeAdjnz, hhi, hlo, sizeOf_add_code, emit_of_wellFormed hwf]

theorem decode_movSHalfDest (h : Half) (m : ShortMem) :
    decode (encode (.movSHalfDest h m) ++ rest) = .ok (.movSHalfDest h m, rest) := by
  have hrow : ∀ k, 1 ≤ k → k < 4 → ∀ t, decode (byte (4 * h.code + k) :: t) =
      chain (takeShortMem k t) fun m t => emit (.movSHalfDest h m) t := by
    intro k h1 h4 t
    cases h <;> interval_cases k <;> rfl
  obtain ⟨h1, h4⟩ := m.code_range
  simp [encode, hrow m.code h1 h4, emit_of_wellFormed (i := .movSHalfDest h m) rfl]

theorem decode_movSSrcA (a : AReg) (x : ShortSrc) : decode (encode (.movSSrcA a x) ++ rest) = .ok (.movSSrcA a x, rest) := by
  have hrow : ∀ k, k < 4 → ∀ t, decode (byte (0x30 + 4 * a.code + k) :: t) =
      chain (takeShortSrc k t) fun x t => emit (.movSSrcA a x) t := by
    intro k hk t
    cases a <;> interval_cases k <;> rfl
  simp [encode, hrow x.code x.code_lt, emit_of_wellFormed (i := .movSSrcA a x) rfl]

theorem decode_stzx (v1 v2 : Byte) (d : ShortDest) : decode (encode (.stzx v1 v2 d) ++ rest) = .ok (.stzx v1 v2 d, rest) := by
  have hrow : ∀ k, 3 ≤ k → k < 8 → ∀ t, decode (byte (0xD8 + k) :: t) = takeStzx k t := by
    intro k h3 h8 t
    interval_cases k <;> rfl
  obtain ⟨h3, h8⟩ := d.code_range
  simp [encode, hrow d.code h3 h8, takeStzx, emit_of_wellFormed (i := .stzx v1 v2 d) rfl]

theorem decode_jmpS (d : BitVec 3) : decode (encode (.jmpS d) ++ rest) = .ok (.jmpS d, rest) := by
  have hrow : ∀ k, k < 8 → decode (byte (0x60 + k) :: rest) = .ok (.jmpS (BitVec.ofNat 3 k), rest) := by
    intro k hk
    interval_cases k <;> rfl
  simpa [encode] using hrow d.toNat d.isLt

theorem decode_ldctx (n : Word) (a : Addr) : decode (encode (.ldctx n a) ++ rest) = .ok (.ldctx n a, rest) := by
  have hrow : ∀ t, decode (two 0x7C 15 0 t) = group7CE .b 0xF0 t := fun _ => rfl
  simp [encode, hrow, group7CE, emit_of_wellFormed (i := .ldctx n a) rfl]

theorem decode_stctx (n : Word) (a : Addr) : decode (encode (.stctx n a) ++ rest) = .ok (.stctx n a, rest) := by
  have hrow : ∀ t, decode (two 0x7D 15 0 t) = group7CE .w 0xF0 t := fun _ => rfl
  simp [encode, hrow, group7CE, emit_of_wellFormed (i := .stctx n a) rfl]

theorem CReg.code_lt (c : CReg) : c.code < 8 := by cases c <;> decide

theorem decode_movDirToR0L (d : Dir) {x : Operand} (hwf : (Instr.movDirToR0L d x).wellFormed = true) :
    decode (encode (.movDirToR0L d x) ++ rest) = .ok (.movDirToR0L d x, rest) := by
  have hrow (b : Byte) (u : List Byte) (hb : b.toNat / 16 = d.code) :
      decode (byte 0x7C :: b :: u) = takeOne (.movDirToR0L d) (b.toNat % 16) u := by
    cases d <;> simp only [Dir.code] at hb <;> simp [decode_group7C, group7C, hb, dirOf]
  exact decode_row (by cases d <;> decide) x.code_lt hrow (takeOne_code ..) hwf

theorem decode_movDirFromR0L (d : Dir) {x : Operand} (hwf : (Instr.movDirFromR0L d x).wellFormed = true) :
    decode (encode (.movDirFromR0L d x) ++ rest) = .ok (.movDirFromR0L d x, rest) := by
  have hrow (b : Byte) (u : List Byte) (hb : b.toNat / 16 = 8 + d.code) :
      decode (byte 0x7C :: b :: u) = takeOne (.movDirFromR0L d) (b.toNat % 16) u := by
    cases d <;> simp only [Dir.code] at hb <;> simp [decode_group7C, group7C, hb, dirOf]
  exact decode_row (by cases d <;> decide) x.code_lt hrow (takeOne_code ..) hwf

theorem decode_ldc (c : CReg) (src : Operand) : decode (encode (.ldc c src) ++ rest) = .ok (.ldc c src, rest) := by
  have hc := c.code_lt
  have hrow (b : Byte) (u : List Byte) (hb : b.toNat / 16 = 8 + c.code) : group7A 0x7A (b :: u) = takeOne (.ldc c) (b.toNat % 16) u := by
    have hreg : b.toNat / 16 % 8 = c.code := by omega
    simp [group7A, hreg, assigned, show 0x80 ≤ b.toNat by omega]
  exact decode_row (by omega) src.code_lt hrow (takeOne_code ..) rfl

theorem decode_stc (c : CReg) (dst : Operand) : decode (encode (.stc c dst) ++ rest) = .ok (.stc c dst, rest) := by
  have hc := c.code_lt
  have hrow (b : Byte) (u : List Byte) (hb : b.toNat / 16 = 8 + c.code) : group7A 0x7B (b :: u) = takeOne (.stc c) (b.toNat % 16) u := by
    have hreg : b.toNat / 16 % 8 = c.code := by omega
    simp [group7A, hreg, assigned, show 0x80 ≤ b.toNat by omega]
  exact decode_row (by omega) dst.code_lt hrow (takeOne_code ..) rfl

theorem decode_xchg (sz : Size) (r : DReg) (dst : Operand) : decode (encode (.xchg sz r dst) ++ rest) = .ok (.xchg sz r dst, rest) := by
  have hr := r.code_lt
  have hrow (b : Byte) (u : List Byte) (hb : b.toNat / 16 = r.code) :
      decode (byte (0x7A + sz.code) :: b :: u) = takeOne (.xchg sz r) (b.toNat % 16) u := by
    simp [decode_group7A, group7A, hb, sizeOf_add_code, show ¬ 0x80 ≤ b.toNat by omega, show b.toNat < 0x40 by omega]
  exact decode_row (by omega) dst.code_lt hrow (takeOne_code ..) rfl

theorem group7E_bmcnd {b : Byte} (hb : b.toNat / 16 = 2) (t : List Byte) : group7E (b :: t) =
    chain (takeBitOperand (b.toNat % 16) t) fun x t =>
    chain (takeByte t) fun k t =>
    assigned (condOfByte k.toNat) fun c => emit (.bmcnd c x) t := by
  simp [group7E, hb]

theorem decode_bmcnd (c : Cond) (x : BitOperand) : decode (encode (.bmcnd c x) ++ rest) = .ok (.bmcnd c x, rest) := by
  have hrow := group7E_bmcnd (byte_div (by decide) x.code_lt) (x.bytes ++ (c.byte :: rest))
  rw [byte_mod (by decide) x.code_lt, takeBitOperand_code, chain_ok, takeByte_cons, chain_ok, condOfByte_byte] at hrow
  rw [encode, encBit, two_append, List.append_assoc]
  exact hrow

theorem decode_ldipl (l : BitVec 3) : decode (encode (.ldipl l) ++ rest) = .ok (.ldipl l, rest) := by
  have hrow : ∀ k, k < 8 → decode (two 0x7D 10 k rest) = .ok (.ldipl (BitVec.ofNat 3 k), rest) := by
    intro k hk
    interval_cases k <;> rfl
  simpa [encode] using hrow l.toNat l.isLt

theorem decode_addQSp (v : BitVec 4) : decode (encode (.addQSp v) ++ rest) = .ok (.addQSp v, rest) := by
  have hrow : ∀ k, k < 16 → decode (two 0x7D 11 k rest) = .ok (.addQSp (BitVec.ofNat 4 k), rest) := by
    intro k hk
    interval_cases k <;> rfl
  simpa [encode] using hrow v.toNat v.isLt

theorem decode_shlLImm (p : Pair) (k : ShiftCount) : decode (encode (.shlLImm p k) ++ rest) = .ok (.shlLImm p k, rest) := by
  have hp : p.code < 2 := by cases p <;> decide
  have hrow (b : Byte) (u : List Byte) (hb : b.toNat / 16 = 8 + p.code) :
      groupEB (b :: u) = emit (.shlLImm p (shiftCountOf (b.toNat % 16))) u := by
    have hpair : pairOf (8 + p.code) = p := by cases p <;> rfl
    simp [groupEB, hb, hpair, shiftCountOf_mod, show ¬ 0xC0 ≤ b.toNat by omega, show ¬ 0xA0 ≤ b.toNat by omega, show 0x80 ≤ b.toNat by omega]
  exact decode_row (P := fun n u => emit (.shlLImm p (shiftCountOf n)) u) (by omega) k.code_lt hrow (by simp) rfl

theorem decode_shaLImm (p : Pair) (k : ShiftCount) : decode (encode (.shaLImm p k) ++ rest) = .ok (.shaLImm p k, rest) := by
  have hp : p.code < 2 := by cases p <;> decide
  have hrow (b : Byte) (u : List Byte) (hb : b.toNat / 16 = 10 + p.code) :
      groupEB (b :: u) = emit (.shaLImm p (shiftCountOf (b.toNat % 16))) u := by
    have hpair : pairOf (10 + p.code) = p := by cases p <;> rfl
    simp [groupEB, hb, hpair, shiftCountOf_mod, show ¬ 0xC0 ≤ b.toNat by omega, show 0xA0 ≤ b.toNat by omega]
  exact decode_row (P := fun n u => emit (.shaLImm p (shiftCountOf n)) u) (by omega) k.code_lt hrow (by simp) rfl

theorem MovaDest.code_lt (d : MovaDest) : d.code < 6 := by
  rcases d with r | a
  · cases r <;> decide
  · cases a <;> decide

theorem Mem.code_ge_of_hasDisp {m : Mem} (h : m.hasDisp = true) : 8 ≤ m.code := by
  cases m with
  | ind a => cases h
  | dsp8A a d | dsp16A a d => simp only [Mem.code]; omega
  | dsp8SB d | dsp8FB d | dsp16SB d | abs16 d => simp [Mem.code]

theorem groupEB_mova {b : Byte} {d : MovaDest} (hb : b.toNat / 16 = d.code) (hlo : 8 ≤ b.toNat % 16) (t : List Byte) :
    groupEB (b :: t) = chain (takeMem (b.toNat % 16) t) fun m t => emit (.mova m d) t := by
  have hd := d.code_lt
  simp only [groupEB, takeByte_cons, chain_ok, if_neg (by omega : ¬ 0xC0 ≤ b.toNat), if_neg (by omega : ¬ 0xA0 ≤ b.toNat),
    if_neg (by omega : ¬ 0x80 ≤ b.toNat), hb, movaDestOf_code]
  have hlt : b.toNat % 16 < 16 := by omega
  generalize b.toNat % 16 = k at hlo hlt
  interval_cases k <;> rfl

theorem decode_mova {m : Mem} {d : MovaDest} (hwf : (Instr.mova m d).wellFormed = true) :
    decode (encode (.mova m d) ++ rest) = .ok (.mova m d, rest) := by
  have hhi := byte_div (d.code_lt.trans (by decide)) m.code_range.2
  have hlo := byte_mod (d.code_lt.trans (by decide)) m.code_range.2
  have hge : 8 ≤ m.code := Mem.code_ge_of_hasDisp hwf
  have hrow := groupEB_mova hhi (by rwa [hlo]) (m.bytes ++ rest)
  rw [hlo, takeMem_code, chain_ok] at hrow
  exact hrow.trans (emit_of_wellFormed hwf rest)

theorem decode_int (n : BitVec 6) : decode (encode (.int n) ++ rest) = .ok (.int n, rest) := by
  have hn := n.isLt
  have hbyte : (byte (16 * (12 + n.toNat / 16) + n.toNat % 16)).toNat = 192 + n.toNat := by
    rw [byte_toNat (by omega)]
    omega
  have hfield : BitVec.ofNat 6 (byte (16 * (12 + n.toNat / 16) + n.toNat % 16)).toNat = n := by
    apply BitVec.eq_of_toNat_eq
    rw [BitVec.toNat_ofNat, hbyte]
    omega
  have hrow (b : Byte) (hb : 0xC0 ≤ b.toNat) : groupEB (b :: rest) = emit (.int (BitVec.ofNat 6 b.toNat)) rest := if_pos hb
  exact (hrow _ (by omega)).trans (by rw [hfield, emit_of_wellFormed rfl])

end

/-! ### Every instruction -/

/-- R100 to R109 and R143, instruction by instruction: the decoder reads back what the encoder wrote. -/
theorem decode_encode {i : Instr} (rest : List Byte) (hwf : i.wellFormed = true) (hc : Machine.Instr.canonical i = true) :
    decode (encode i ++ rest) = .ok (i, rest) := by
  cases i with
  -- literal first bytes, with code bytes that stand for themselves
  | brk | nop | rts | into | reit | und | exitd | extsW | wait | jmpB | enter => rfl
  | daddReg sz | dsubReg sz | dadcReg sz | dsbbReg sz | smovf sz | smovb sz | sstr sz | rmpa sz => cases sz <;> rfl
  | pushBS h | popBS h => cases h <;> rfl
  | movBSImmA a | pushWS a | popWS a | incW a | decW a => cases a <;> rfl
  | shlLR1H p | shaLR1H p => cases p <;> rfl
  | pushc c | popc c => cases c <;> rfl
  | fset f | fclr f => cases f <;> rfl
  | bmcndC c => cases c <;> rfl
  | jmps | jsrs => exact (takeB_cons ..).trans (emit_of_wellFormed hwf rest)
  | pushm l => exact congrArg (fun l => Except.ok (Instr.pushm l, rest)) (pushmList_pushmByte l)
  | popm l => exact congrArg (fun l => Except.ok (Instr.popm l, rest)) (popmList_popmByte l)
  -- a literal op-code, then a 16-bit or 20-bit field
  | jmpW | jsrW => exact (takeW_wordBytes ..).trans (emit_of_wellFormed hwf rest)
  | movWSImmA a => cases a <;> exact (takeW_wordBytes ..).trans (emit_of_wellFormed hwf rest)
  | ldcImm c v => cases c <;> exact (takeW_wordBytes ..).trans (emit_of_wellFormed hwf rest)
  | jmpA | jsrA => exact (takeA_addrBytes ..).trans (emit_of_wellFormed hwf rest)
  | ldctx n a => exact decode_ldctx n a
  | stctx n a => exact decode_stctx n a
  -- two operands
  | muluG | movG | mulG | tstG | xorG | andG | orG | addG | subG | adcG | sbbG | cmpG =>
    exact decode_encG rfl (fun _ => rfl) (fun _ => rfl) hwf
  | addQ | cmpQ | movQ => exact decode_encQ rfl (fun _ => rfl) (fun _ => rfl) hwf
  | rotImm | shlImm | shaImm => exact decode_encShift rfl (fun _ => rfl) (fun _ => rfl) hwf
  | adjnz => exact decode_adjnz hwf
  -- short forms
  | movSHalfDest h m => exact decode_movSHalfDest h m
  | movSSrcA a x => exact decode_movSSrcA a x
  | movSSrcHalf | andSSrcHalf | orSSrcHalf | addSSrcHalf | subSSrcHalf | cmpSSrcHalf =>
    exact decode_encSS (fun k hk t => by interval_cases k <;> rfl) hwf
  | addSImm | subSImm | andSImm | orSImm | movSImm | stz | stnz | cmpSImm =>
    exact decode_encShortImm (fun k h3 h8 t => by interval_cases k <;> rfl) hwf
  | incB | decB | movZ | notS => exact decode_encShort (fun k h3 h8 t => by interval_cases k <;> rfl) hwf
  | stzx v1 v2 d => exact decode_stzx v1 v2 d
  | bclrS | bsetS | bnotS | btstS => exact decode_field3 (fun k hk t => by interval_cases k <;> rfl) hwf
  | jmpS d => exact decode_jmpS d
  | jcndShort c d =>
    cases c with
    | geu | gtu | eq | n | ltu | leu | ne | pz => rfl
    | le | o | ge | gt | no | lt => cases hwf
  | jcndLong c d =>
    cases c with
    | geu | gtu | eq | n | ltu | leu | ne | pz => cases hwf
    | le | o | ge | gt | no | lt => rfl
  -- immediates
  | divuImm | divImm | pushImm | divxImm | addImmSp | daddImm | dsubImm | dadcImm | dsbbImm =>
    exact decode_imm (fun _ => rfl) (fun _ => rfl) hwf
  -- groups 74 to 77
  | steA1A0 | pushG | neg | rotR1H | notG | ldeA1A0 | popG | shlR1H | shaR1H =>
    exact decode_encOne (by decide) (fun b u hb => by simp [decode_group74, group74, hb]) (takeOne_code ..) hwf
  | steAbs20 sz =>
    exact decode_encOne (P := takeOneAddr fun a o => .steAbs20 sz o a) (by decide)
      (fun b u hb => by simp [decode_group74, group74, hb]) (takeOneAddr_code ..) hwf
  | steDsp20 sz =>
    exact decode_encOne (P := takeOneAddr fun a o => .steDsp20 sz o a) (by decide)
      (fun b u hb => by simp [decode_group74, group74, hb]) (takeOneAddr_code ..) hwf
  | movToSp sz =>
    exact decode_encOne (P := takeOneByte fun d o => .movToSp sz o d) (by decide)
      (fun b u hb => by simp [decode_group74, group74, hb]) (takeOneByte_code ..) hwf
  | ldeAbs20 | ldeDsp20 =>
    exact decode_encOne (by decide) (fun b u hb => by simp [decode_group74, group74, hb]) (takeOneAddr_code ..) hwf
  | movFromSp =>
    exact decode_encOne (by decide) (fun b u hb => by simp [decode_group74, group74, hb]) (takeOneByte_code ..) hwf
  | movGImm =>
    exact decode_encOne (by decide) (fun b u hb => by simp [decode_group74, group74, hb]) (takeDestImm_code ..) hwf
  | tstImm | xorImm | andImm | orImm | addImm | subImm | adcImm | sbbImm | cmpImm =>
    exact decode_encOne (by decide) (fun b u hb => by simp [decode_group76, group76, hb]) (takeDestImm_code ..) hwf
  | divx | rolc | rorc | divu | div | adcf | abs =>
    exact decode_encOne (by decide) (fun b u hb => by simp [decode_group76, group76, hb]) (takeOne_code ..) hwf
  -- group 7E
  | btstc | btsts | bntst | band | bnand | bor | bnor | bclrG | bsetG | bnotG | btstG | bxor | bnxor =>
    exact decode_encBit (by decide) (fun b u hb => by simp [group7E, hb]) hwf
  | bmcnd c x => exact decode_bmcnd c x
  -- groups 7A to 7D
  | ldc c src => exact decode_ldc c src
  | stc c dst => exact decode_stc c dst
  | xchg sz r dst => exact decode_xchg sz r dst
  | movDirToR0L d x => exact decode_movDirToR0L d hwf
  | movDirFromR0L d x => exact decode_movDirFromR0L d hwf
  | muluImm v | mulImm v =>
    cases v with
    | b =>
      exact decode_encOne (by decide) (fun b u hb => (decode_group7C (by omega) u).trans (by simp [group7C, hb, Imm.size]))
        (takeDestImm_code ..) hwf
    | w =>
      exact decode_encOne (by decide) (fun b u hb => (decode_group7D (by omega) u).trans (by simp [group7D, hb, Imm.size]))
        (takeDestImm_code ..) hwf
  | extsB x => exact decode_row (by decide) x.code_lt (fun b u hb => by simp [decode_group7C, group7C, hb]) (takeOne_code ..) hwf
  | stcPc x =>
    exact decode_operandRow (by decide) x.code_lt (fun b u hb => by simp [decode_group7C, group7C, hb]) (takePcDest_code x rest) hwf
  | jmpiA x | jsriA x =>
    exact decode_operandRow (by decide) x.code_lt (fun b u hb => by simp [decode_group7D, group7D, hb]) (takeIndA_code hwf rest) hwf
  | jmpiW x | jsriW x =>
    exact decode_operandRow (by decide) x.code_lt (fun b u hb => by simp [decode_group7D, group7D, hb]) (takeIndW_code hwf rest) hwf
  | pusha m =>
    exact decode_operandRow (by decide) m.code_range.2 (fun b u hb => by simp [decode_group7D, group7D, hb]) (takeMem_code m rest) hwf
  | ldipl l => exact decode_ldipl l
  | addQSp v => exact decode_addQSp v
  -- group EB
  | mova m d => exact decode_mova hwf
  | shlLImm p k => exact decode_shlLImm p k
  | shaLImm p k => exact decode_shaLImm p k
  | int n => exact decode_int n
  -- the second names
  | sbjnz | ldintb => cases hc

/-- Settles O1, instruction by instruction as `decode_encode` goes. -/
theorem decodeInvertsEncode : Obligations.DecodeInvertsEncode :=
  fun _ rest hwf hc => decode_encode rest hwf hc

end Sys2Proof
end


section
/-! SUPPORT. How many bytes the encoder writes and how many a parser of fields and operands reads: as many as its answer has (R100, R107). -/

namespace Sys2Proof

/-! ### Lengths of what the encoder writes -/

theorem two_length (first hi lo : Nat) (t : List Byte) : (two first hi lo t).length = 2 + t.length := Nat.add_comm _ 2

theorem encG_length (first : Nat) (sz : Size) (src dst : Operand) :
    (encG first sz src dst).length = 2 + (src.bytes.length + dst.bytes.length) := by
  rw [encG, two_length, List.length_append]

theorem encOne_length (first hi : Nat) (sz : Size) (x : Operand) (t : List Byte) :
    (encOne first hi sz x t).length = 2 + (x.bytes.length + t.length) := by
  rw [encOne, two_length, List.length_append]

theorem encBit_length (hi : Nat) (x : BitOperand) (t : List Byte) : (encBit hi x t).length = 2 + (x.bytes.length + t.length) := by
  rw [encBit, two_length, List.length_append]

theorem encSS_length (first : Nat) (h : Half) (x : ShortSrc) : (encSS first h x).length = 1 + x.bytes.length := Nat.add_comm _ 1

theorem encShort_length (first : Nat) (d : ShortDest) : (encShort first d).length = 1 + d.bytes.length := Nat.add_comm _ 1

theorem encShortImm_length (first : Nat) (v : Byte) (d : ShortDest) : (encShortImm first v d).length = 2 + d.bytes.length :=
  Nat.add_comm _ 2

theorem Imm.bytes_length_le (v : Imm) : v.bytes.length ≤ 2 := by cases v <;> simp [Imm.bytes, wordBytes]

theorem Mem.bytes_length_le (m : Mem) : m.bytes.length ≤ 2 := by cases m <;> simp [Mem.bytes, wordBytes]

theorem Operand.bytes_length_le (x : Operand) : x.bytes.length ≤ 2 := by
  cases x with
  | dreg | areg => exact Nat.zero_le 2
  | mem m => exact m.bytes_length_le

theorem BitOperand.bytes_length_le (x : BitOperand) : x.bytes.length ≤ 2 := by cases x <;> simp [BitOperand.bytes, wordBytes]

theorem ShortMem.bytes_length_le (m : ShortMem) : m.bytes.length ≤ 2 := by cases m <;> simp [ShortMem.bytes, wordBytes]

theorem ShortSrc.bytes_length_le (x : ShortSrc) : x.bytes.length ≤ 2 := by
  cases x with
  | half => exact Nat.zero_le 2
  | mem m => exact m.bytes_length_le

theorem ShortDest.bytes_length_le (d : ShortDest) : d.bytes.length ≤ 2 := by
  cases d with
  | half => exact Nat.zero_le 2
  | mem m => exact m.bytes_length_le

theorem IndMem.bytes_length_le (m : IndMem) : m.bytes.length ≤ 3 := by
  cases m with
  | mem m => exact m.bytes_length_le.trans (by decide)
  | dsp20A a d => exact Nat.le_refl 3

theorem IndW.bytes_length_le (x : IndW) : x.bytes.length ≤ 3 := by
  cases x with
  | dreg | areg => exact Nat.zero_le 3
  | mem m => exact m.bytes_length_le

theorem IndA.bytes_length_le (x : IndA) : x.bytes.length ≤ 3 := by
  cases x with
  | pair => exact Nat.zero_le 3
  | mem m => exact m.bytes_length_le

theorem PcDest.bytes_length_le (x : PcDest) : x.bytes.length ≤ 3 := by
  cases x with
  | pair => exact Nat.zero_le 3
  | mem m => exact m.bytes_length_le.trans (by decide)

/-! ### Parsers of fields and operands -/

/-- What the parser answers on `t` has `len` bytes, and these are what it has read. -/
def Reads {α : Type} (len : α → Nat) (t : List Byte) (p : Parsed α) : Prop :=
  ∀ v u, p = .ok (v, u) → ∃ c, t = c ++ u ∧ c.length = len v

section
variable {α β : Type} {lenA : α → Nat} {lenB : β → Nat} {t : List Byte}

theorem reads_error {e : Reject} : Reads lenA t (.error e) := nofun

theorem reads_ok {v : α} (h : lenA v = 0) : Reads lenA t (.ok (v, t)) := by
  rintro _ _ ⟨⟩
  exact ⟨[], rfl, h.symm⟩

theorem reads_map {p : Parsed α} {f : α → β} (hp : Reads lenA t p) (hlen : ∀ v, lenB (f v) = lenA v) :
    Reads lenB t (chain p fun v u => .ok (f v, u)) := by
  intro w u h
  cases p with
  | error e => cases h
  | ok a =>
    cases h
    obtain ⟨c, hc, hlenA⟩ := hp _ _ rfl
    exact ⟨c, hc, hlenA.trans (hlen _).symm⟩

end

theorem takeByte_reads (t : List Byte) : Reads (fun _ => 1) t (takeByte t) := by
  match t with
  | [] => exact reads_error
  | x :: t => rintro _ _ ⟨⟩; exact ⟨[x], rfl, rfl⟩

theorem takeWord_reads (t : List Byte) : Reads (fun _ => 2) t (takeWord t) := by
  match t with
  | [] | [_] => exact reads_error
  | x :: y :: t => rintro _ _ ⟨⟩; exact ⟨[x, y], rfl, rfl⟩

theorem takeAddr_reads (t : List Byte) : Reads (fun _ => 3) t (takeAddr t) := by
  match t with
  | [] | [_] | [_, _] => exact reads_error
  | x :: y :: z :: t => rintro _ _ ⟨⟩; exact ⟨[x, y, z], rfl, rfl⟩

theorem takeImm_reads (sz : Size) (t : List Byte) : Reads (fun v => v.bytes.length) t (takeImm sz t) := by
  cases sz with
  | b => exact reads_map (takeByte_reads t) fun _ => rfl
  | w => exact reads_map (takeWord_reads t) fun _ => rfl

theorem takeMem_reads (n : Nat) (t : List Byte) : Reads (fun m => m.bytes.length) t (takeMem n t) := by
  unfold takeMem
  split
  case h_1 | h_2 => exact reads_ok rfl
  case h_3 | h_4 | h_5 | h_6 => exact reads_map (takeByte_reads t) fun _ => rfl
  case h_7 | h_8 | h_9 | h_10 => exact reads_map (takeWord_reads t) fun _ => rfl
  case h_11 => exact reads_error

theorem takeOperand_reads (n : Nat) (t : List Byte) : Reads (fun x => x.bytes.length) t (takeOperand n t) := by
  unfold takeOperand
  split
  · exact reads_ok rfl
  · split
    · exact reads_ok rfl
    · exact reads_map (takeMem_reads n t) fun _ => rfl

theorem takeBitOperand_reads (n : Nat) (t : List Byte) : Reads (fun x => x.bytes.length) t (takeBitOperand n t) := by
  unfold takeBitOperand
  split
  case h_7 | h_8 => exact reads_ok rfl
  case h_1 | h_2 | h_3 | h_4 | h_5 | h_6 | h_9 | h_10 | h_11 | h_12 => exact reads_map (takeByte_reads t) fun _ => rfl
  case h_13 | h_14 | h_15 | h_16 => exact reads_map (takeWord_reads t) fun _ => rfl
  case h_17 => exact reads_error

theorem takeShortMem_reads (n : Nat) (t : List Byte) : Reads (fun m => m.bytes.length) t (takeShortMem n t) := by
  unfold takeShortMem
  split
  case h_1 | h_2 => exact reads_map (takeByte_reads t) fun _ => rfl
  case h_3 => exact reads_map (takeWord_reads t) fun _ => rfl
  case h_4 => exact reads_error

theorem takeShortSrc_reads (n : Nat) (t : List Byte) : Reads (fun x => x.bytes.length) t (takeShortSrc n t) := by
  unfold takeShortSrc
  split
  · exact reads_ok rfl
  · exact reads_map (takeShortMem_reads n t) fun _ => rfl

theorem takeShortDest_reads (n : Nat) (t : List Byte) : Reads (fun d => d.bytes.length) t (takeShortDest n t) := by
  unfold takeShortDest
  split
  case h_1 | h_2 => exact reads_ok rfl
  case h_3 | h_4 | h_5 => exact reads_map (takeShortMem_reads _ t) fun _ => rfl
  case h_6 => exact reads_error

theorem takeIndMem_reads (n : Nat) (t : List Byte) : Reads (fun m => m.bytes.length) t (takeIndMem n t) := by
  unfold takeIndMem
  split
  · exact reads_map (takeAddr_reads t) fun _ => rfl
  · exact reads_map (takeMem_reads n t) fun _ => rfl

theorem takeIndW_reads (n : Nat) (t : List Byte) : Reads (fun x => x.bytes.length) t (takeIndW n t) := by
  unfold takeIndW
  split
  · exact reads_ok rfl
  · split
    · exact reads_ok rfl
    · exact reads_map (takeIndMem_reads n t) fun _ => rfl

theorem takeIndA_reads (n : Nat) (t : List Byte) : Reads (fun x => x.bytes.length) t (takeIndA n t) := by
  unfold takeIndA
  split
  · split
    · exact reads_ok rfl
    · exact reads_error
  · exact reads_map (takeIndMem_reads n t) fun _ => rfl

theorem takePcDest_reads (n : Nat) (t : List Byte) : Reads (fun x => x.bytes.length) t (takePcDest n t) := by
  unfold takePcDest
  split
  · split
    · exact reads_ok rfl
    · exact reads_error
  · exact reads_map (takeMem_reads n t) fun _ => rfl

end Sys2Proof
end


section
/-! SUPPORT. The frame of the decoder: behind the bytes already read, each parser of instructions answers an instruction of the manual of at most 7
bytes and has read the rest of its bytes (R5, R100, R107, R142). -/

namespace Sys2Proof

/-! ### Parsers of instructions -/

/-- Behind `n` bytes of an instruction, what the parser answers on `t` is an instruction of the manual, at most seven bytes long, and the rest of
its bytes are what it has read. -/
def DecodesAt (n : Nat) (t : List Byte) (p : Parsed Instr) : Prop :=
  ∀ i u, p = .ok (i, u) →
    i.wellFormed = true ∧ Machine.Instr.canonical i = true ∧ i.length ≤ 7 ∧ ∃ c, t = c ++ u ∧ i.length = n + c.length

/-- A term that the decoder answers, with its length. -/
def Instr.HasLength (i : Instr) (n : Nat) : Prop := Machine.Instr.canonical i = true ∧ i.length = n

section
variable {n : Nat} {t : List Byte}

theorem error_decodes {e : Reject} : DecodesAt n t (.error e) := by
  intro i u h
  cases h

theorem emit_decodes {i : Instr} (h : i.HasLength n) (hn : n ≤ 7) : DecodesAt n t (emit i t) := by
  obtain ⟨hcanonical, hlength⟩ := h
  intro j u hj
  unfold emit at hj
  split at hj
  · next hwf =>
    cases hj
    exact ⟨hwf, hcanonical, hlength.trans_le hn, [], rfl, hlength⟩
  · cases hj

theorem chain_decodes {α : Type} {len : α → Nat} {p : Parsed α} {k : α → List Byte → Parsed Instr} (hp : Reads len t p)
    (hk : ∀ v u, DecodesAt (n + len v) u (k v u)) : DecodesAt n t (chain p k) := by
  intro i u hi
  cases p with
  | error e => cases hi
  | ok a =>
    obtain ⟨c, rfl, hc⟩ := hp _ _ rfl
    obtain ⟨hwf, hcanonical, hle, c', hc', hlength⟩ := hk _ _ i u hi
    refine ⟨hwf, hcanonical, hle, c ++ c', ?_, ?_⟩
    · rw [hc', List.append_assoc]
    · rw [hlength, List.length_append, hc, Nat.add_assoc]

theorem assigned_decodes {α : Type} {x : Option α} {k : α → Parsed Instr} (hk : ∀ v, DecodesAt n t (k v)) :
    DecodesAt n t (assigned x k) := by
  cases x with
  | none => exact error_decodes
  | some v => exact hk v

/-- One code byte more. -/
theorem takeByte_decodes {k : Byte → List Byte → Parsed Instr} (hk : ∀ v u, DecodesAt (n + 1) u (k v u)) :
    DecodesAt n t (chain (takeByte t) k) := chain_decodes (takeByte_reads t) hk

end

/-! ### The formats (R106) -/

section
variable {n : Nat} {t : List Byte}

theorem takeG_decodes {mk : Size → Operand → Operand → Instr}
    (h : ∀ sz a b, (mk sz a b).HasLength (2 + (a.bytes.length + b.bytes.length))) : DecodesAt 1 t (takeG mk n t) :=
  takeByte_decodes fun _ _ => chain_decodes (takeOperand_reads _ _) fun a _ => chain_decodes (takeOperand_reads _ _) fun b _ => by
    have ha := a.bytes_length_le
    have hb := b.bytes_length_le
    rw [Nat.add_assoc]
    exact emit_decodes (h ..) (by omega)

theorem takeQ_decodes {mk : Size → BitVec 4 → Operand → Instr} (h : ∀ sz v x, (mk sz v x).HasLength (2 + x.bytes.length)) :
    DecodesAt 1 t (takeQ mk n t) :=
  takeByte_decodes fun _ _ => chain_decodes (takeOperand_reads _ _) fun x _ => by
    have hx := x.bytes_length_le
    exact emit_decodes (h ..) (by omega)

theorem takeShift_decodes {mk : Size → ShiftCount → Operand → Instr} (h : ∀ sz k x, (mk sz k x).HasLength (2 + x.bytes.length)) :
    DecodesAt 1 t (takeShift mk n t) :=
  takeByte_decodes fun _ _ => chain_decodes (takeOperand_reads _ _) fun x _ => by
    have hx := x.bytes_length_le
    exact emit_decodes (h ..) (by omega)

theorem takeAdjnz_decodes : DecodesAt 1 t (takeAdjnz n t) :=
  takeByte_decodes fun _ _ => chain_decodes (takeOperand_reads _ _) fun x _ => takeByte_decodes fun _ _ => by
    have hx := x.bytes_length_le
    exact emit_decodes ⟨rfl, encOne_length ..⟩ (by simp only [Nat.add_assoc]; omega)

theorem takeOne_decodes {mk : Operand → Instr} (h : ∀ x, (mk x).HasLength (2 + x.bytes.length)) : DecodesAt 2 t (takeOne mk n t) :=
  chain_decodes (takeOperand_reads _ _) fun x _ => by
    have hx := x.bytes_length_le
    exact emit_decodes (h x) (by omega)

theorem takeDestImm_decodes {mk : Imm → Operand → Instr} {sz : Size}
    (h : ∀ v x, (mk v x).HasLength (2 + (x.bytes.length + v.bytes.length))) : DecodesAt 2 t (takeDestImm mk sz n t) :=
  chain_decodes (takeOperand_reads _ _) fun x _ => chain_decodes (takeImm_reads _ _) fun v _ => by
    have hx := x.bytes_length_le
    have hv := v.bytes_length_le
    rw [Nat.add_assoc]
    exact emit_decodes (h v x) (by omega)

theorem takeOneAddr_decodes {mk : Addr → Operand → Instr} (h : ∀ a x, (mk a x).HasLength (2 + (x.bytes.length + 3))) :
    DecodesAt 2 t (takeOneAddr mk n t) :=
  chain_decodes (takeOperand_reads _ _) fun x _ => chain_decodes (takeAddr_reads _) fun a _ => by
    have hx := x.bytes_length_le
    exact emit_decodes (h a x) (by omega)

theorem takeOneByte_decodes {mk : Byte → Operand → Instr} (h : ∀ d x, (mk d x).HasLength (2 + (x.bytes.length + 1))) :
    DecodesAt 2 t (takeOneByte mk n t) :=
  chain_decodes (takeOperand_reads _ _) fun x _ => takeByte_decodes fun d _ => by
    have hx := x.bytes_length_le
    exact emit_decodes (h d x) (by omega)

theorem takeShortImm_decodes {mk : Byte → ShortDest → Instr} (h : ∀ v d, (mk v d).HasLength (2 + d.bytes.length)) :
    DecodesAt 1 t (takeShortImm mk n t) :=
  takeByte_decodes fun v _ => chain_decodes (takeShortDest_reads _ _) fun d _ => by
    have hd := d.bytes_length_le
    exact emit_decodes (h v d) (by omega)

theorem takeStzx_decodes : DecodesAt 1 t (takeStzx n t) :=
  takeByte_decodes fun v1 _ => chain_decodes (takeShortDest_reads _ _) fun d _ => takeByte_decodes fun v2 _ => by
    have hd := d.bytes_length_le
    have hlength : (encode (.stzx v1 v2 d)).length = 2 + d.bytes.length + 1 := by simp [encode]; omega
    exact emit_decodes ⟨rfl, hlength⟩ (by omega)

theorem takeShort_decodes {mk : ShortDest → Instr} (h : ∀ d, (mk d).HasLength (1 + d.bytes.length)) :
    DecodesAt 1 t (takeShort mk n t) :=
  chain_decodes (takeShortDest_reads _ _) fun d _ => by
    have hd := d.bytes_length_le
    exact emit_decodes (h d) (by omega)

theorem takeSS_decodes {mk : Half → ShortSrc → Instr} (h : ∀ y x, (mk y x).HasLength (1 + x.bytes.length)) :
    DecodesAt 1 t (takeSS mk n t) :=
  chain_decodes (takeShortSrc_reads _ _) fun x _ => by
    have hx := x.bytes_length_le
    exact emit_decodes (h _ x) (by omega)

theorem takeB_decodes {mk : Byte → Instr} (h : ∀ v, (mk v).HasLength (n + 1)) (hn : n + 1 ≤ 7) : DecodesAt n t (takeB mk t) :=
  takeByte_decodes fun v _ => emit_decodes (h v) hn

theorem takeW_decodes {mk : Word → Instr} (h : ∀ v, (mk v).HasLength (n + 2)) (hn : n + 2 ≤ 7) : DecodesAt n t (takeW mk t) :=
  chain_decodes (takeWord_reads t) fun v _ => emit_decodes (h v) hn

theorem takeA_decodes {mk : Addr → Instr} (h : ∀ v, (mk v).HasLength (n + 3)) (hn : n + 3 ≤ 7) : DecodesAt n t (takeA mk t) :=
  chain_decodes (takeAddr_reads t) fun v _ => emit_decodes (h v) hn

theorem takeI_decodes {mk : Imm → Instr} {sz : Size} (h : ∀ v, (mk v).HasLength (2 + v.bytes.length)) :
    DecodesAt 2 t (takeI mk sz t) :=
  chain_decodes (takeImm_reads sz t) fun v _ => by
    have hv := v.bytes_length_le
    exact emit_decodes (h v) (by omega)

/-! ### The groups (R136 to R141) -/

theorem group74_decodes (sz : Size) : DecodesAt 1 t (group74 sz t) := by
  refine takeByte_decodes fun b u => ?_
  dsimp only
  split
  case h_1 | h_2 | h_9 | h_10 => exact takeOneAddr_decodes fun _ _ => ⟨rfl, encOne_length ..⟩
  case h_4 | h_12 => exact takeOneByte_decodes fun _ _ => ⟨rfl, encOne_length ..⟩
  case h_13 => exact takeDestImm_decodes fun _ _ => ⟨rfl, encOne_length ..⟩
  all_goals exact takeOne_decodes fun _ => ⟨rfl, encOne_length ..⟩

theorem group76_decodes (sz : Size) : DecodesAt 1 t (group76 sz t) := by
  refine takeByte_decodes fun b u => ?_
  dsimp only
  split
  case h_1 | h_2 | h_3 | h_4 | h_5 | h_6 | h_7 | h_8 | h_9 => exact takeDestImm_decodes fun _ _ => ⟨rfl, encOne_length ..⟩
  all_goals exact takeOne_decodes fun _ => ⟨rfl, encOne_length ..⟩

theorem group7A_decodes : DecodesAt 1 t (group7A n t) := by
  refine takeByte_decodes fun b u => ?_
  dsimp only
  split
  · split <;> exact assigned_decodes fun _ => takeOne_decodes fun _ => ⟨rfl, two_length ..⟩
  · split
    · exact takeOne_decodes fun _ => ⟨rfl, two_length ..⟩
    · exact error_decodes

theorem group7CE_decodes (sz : Size) (y : Nat) : DecodesAt 2 t (group7CE sz y t) := by
  unfold group7CE
  split
  case h_1 | h_2 | h_3 | h_4 | h_12 | h_13 | h_14 | h_15 | h_16 => exact takeI_decodes fun _ => ⟨rfl, two_length ..⟩
  case h_17 =>
    refine chain_decodes (takeWord_reads t) fun _ _ => chain_decodes (takeAddr_reads _) fun _ _ => ?_
    cases sz <;> exact emit_decodes ⟨rfl, rfl⟩ (by decide)
  case h_19 =>
    cases sz with
    | b => exact takeB_decodes (fun _ => ⟨rfl, rfl⟩) (by decide)
    | w => exact emit_decodes ⟨rfl, rfl⟩ (by decide)
  case h_20 => cases sz <;> exact emit_decodes ⟨rfl, rfl⟩ (by decide)
  case h_21 => exact error_decodes
  all_goals exact emit_decodes ⟨rfl, rfl⟩ (by decide)

theorem group7C_decodes (y : Nat) : DecodesAt 2 t (group7C y t) := by
  unfold group7C
  split
  case h_5 | h_6 => exact takeDestImm_decodes fun _ _ => ⟨rfl, encOne_length ..⟩
  case h_12 =>
    refine chain_decodes (takePcDest_reads _ _) fun x _ => ?_
    have hx := x.bytes_length_le
    exact emit_decodes ⟨rfl, two_length ..⟩ (by omega)
  case h_13 => exact error_decodes
  all_goals exact takeOne_decodes fun _ => ⟨rfl, two_length ..⟩

theorem group7D_decodes (y : Nat) : DecodesAt 2 t (group7D y t) := by
  unfold group7D
  split
  case h_1 | h_2 =>
    refine chain_decodes (takeIndA_reads _ _) fun x _ => ?_
    have hx := x.bytes_length_le
    exact emit_decodes ⟨rfl, two_length ..⟩ (by omega)
  case h_3 | h_4 =>
    refine chain_decodes (takeIndW_reads _ _) fun x _ => ?_
    have hx := x.bytes_length_le
    exact emit_decodes ⟨rfl, two_length ..⟩ (by omega)
  case h_5 | h_6 => exact takeDestImm_decodes fun _ _ => ⟨rfl, encOne_length ..⟩
  case h_7 =>
    refine chain_decodes (takeMem_reads _ _) fun m _ => ?_
    have hm := m.bytes_length_le
    exact emit_decodes ⟨rfl, two_length ..⟩ (by omega)
  case h_8 =>
    split
    · exact emit_decodes ⟨rfl, rfl⟩ (by decide)
    · exact error_decodes
  case h_9 => exact emit_decodes ⟨rfl, rfl⟩ (by decide)
  case h_10 => exact assigned_decodes fun _ => takeB_decodes (fun _ => ⟨rfl, rfl⟩) (by decide)
  case h_11 => exact assigned_decodes fun _ => emit_decodes ⟨rfl, rfl⟩ (by decide)
  case h_12 => exact error_decodes

theorem group7E_decodes : DecodesAt 1 t (group7E t) := by
  refine takeByte_decodes fun b u => chain_decodes (takeBitOperand_reads _ _) fun x v => ?_
  have hx := x.bytes_length_le
  split
  case h_3 =>
    refine takeByte_decodes fun k w => assigned_decodes fun c => ?_
    exact emit_decodes ⟨rfl, encBit_length ..⟩ (by omega)
  case h_15 => exact error_decodes
  all_goals exact emit_decodes ⟨rfl, encBit_length ..⟩ (by omega)

theorem groupEB_decodes : DecodesAt 1 t (groupEB t) := by
  refine takeByte_decodes fun b u => ?_
  dsimp only
  split
  · exact emit_decodes ⟨rfl, rfl⟩ (by decide)
  split
  · exact emit_decodes ⟨rfl, rfl⟩ (by decide)
  split
  · exact emit_decodes ⟨rfl, rfl⟩ (by decide)
  split
  case h_1 => exact assigned_decodes fun _ => takeW_decodes (fun _ => ⟨rfl, rfl⟩) (by decide)
  case h_2 =>
    split
    · exact emit_decodes ⟨rfl, rfl⟩ (by decide)
    · split
      · exact emit_decodes ⟨rfl, rfl⟩ (by decide)
      · exact error_decodes
  case h_3 | h_4 => exact assigned_decodes fun _ => emit_decodes ⟨rfl, rfl⟩ (by decide)
  case h_5 | h_6 => exact emit_decodes ⟨rfl, rfl⟩ (by decide)
  case h_7 | h_8 => exact error_decodes
  case h_9 =>
    refine assigned_decodes fun d => chain_decodes (takeMem_reads _ _) fun m _ => ?_
    have hm := m.bytes_length_le
    exact emit_decodes ⟨rfl, two_length ..⟩ (by omega)

/-! ### The first-byte map (R135) -/

theorem decodeLow_decodes : DecodesAt 1 t (decodeLow n t) := by
  unfold decodeLow
  split
  case h_1 =>
    split
    · exact emit_decodes ⟨rfl, rfl⟩ (by decide)
    split
    · exact emit_decodes ⟨rfl, rfl⟩ (by decide)
    refine chain_decodes (takeShortMem_reads _ _) fun m _ => ?_
    have hm := m.bytes_length_le
    exact emit_decodes ⟨rfl, Nat.add_comm _ 1⟩ (by omega)
  case h_7 =>
    refine chain_decodes (takeShortSrc_reads _ _) fun x _ => ?_
    have hx := x.bytes_length_le
    exact emit_decodes ⟨rfl, Nat.add_comm _ 1⟩ (by omega)
  case h_2 | h_3 | h_4 | h_5 | h_6 | h_8 => exact takeSS_decodes fun _ _ => ⟨rfl, encSS_length ..⟩
  case h_9 | h_10 | h_11 | h_12 => exact takeB_decodes (fun _ => ⟨rfl, rfl⟩) (by decide)
  case h_13 => exact emit_decodes ⟨rfl, rfl⟩ (by decide)
  case h_14 => exact assigned_decodes fun _ => takeB_decodes (fun _ => ⟨rfl, rfl⟩) (by decide)
  case h_15 =>
    split
    · exact takeG_decodes fun _ _ _ => ⟨rfl, encG_length ..⟩
    split
    · exact takeG_decodes fun _ _ _ => ⟨rfl, encG_length ..⟩
    split
    · exact group74_decodes _
    · exact group76_decodes _
  case h_16 =>
    split
    · exact takeG_decodes fun _ _ _ => ⟨rfl, encG_length ..⟩
    split
    · exact group7A_decodes
    split
    · refine takeByte_decodes fun b _ => ?_
      split
      · exact group7CE_decodes _ _
      split
      · exact group7C_decodes _
      · exact group7D_decodes _
    split
    · exact group7E_decodes
    · exact error_decodes

theorem block_decodes {two one short : Parsed Instr} (htwo : DecodesAt 1 t two) (hone : DecodesAt 1 t one)
    (hshort : DecodesAt 1 t short) : DecodesAt 1 t (block n two one short) := by
  unfold block
  split
  · exact htwo
  split
  · exact hone
  · exact hshort

theorem decodeHigh_decodes : DecodesAt 1 t (decodeHigh n t) := by
  unfold decodeHigh
  split
  case h_1 | h_2 | h_3 | h_4 | h_9 =>
    exact block_decodes (takeG_decodes fun _ _ _ => ⟨rfl, encG_length ..⟩) (emit_decodes ⟨rfl, rfl⟩ (by decide))
      (takeShortImm_decodes fun _ _ => ⟨rfl, encShortImm_length ..⟩)
  case h_5 | h_6 =>
    exact block_decodes (takeG_decodes fun _ _ _ => ⟨rfl, encG_length ..⟩) (takeW_decodes (fun _ => ⟨rfl, rfl⟩) (by decide))
      (takeShort_decodes fun _ => ⟨rfl, encShort_length ..⟩)
  case h_7 | h_8 =>
    exact block_decodes (takeG_decodes fun _ _ _ => ⟨rfl, encG_length ..⟩) (emit_decodes ⟨rfl, rfl⟩ (by decide))
      (takeShort_decodes fun _ => ⟨rfl, encShort_length ..⟩)
  case h_10 | h_11 =>
    exact block_decodes (takeQ_decodes fun _ _ _ => ⟨rfl, encOne_length ..⟩) (emit_decodes ⟨rfl, rfl⟩ (by decide))
      (takeShortImm_decodes fun _ _ => ⟨rfl, encShortImm_length ..⟩)
  case h_12 =>
    exact block_decodes (takeQ_decodes fun _ _ _ => ⟨rfl, encOne_length ..⟩) (emit_decodes ⟨rfl, rfl⟩ (by decide)) takeStzx_decodes
  case h_13 =>
    exact block_decodes (takeShift_decodes fun _ _ _ => ⟨rfl, encOne_length ..⟩) (takeB_decodes (fun _ => ⟨rfl, rfl⟩) (by decide))
      (takeShortImm_decodes fun _ _ => ⟨rfl, encShortImm_length ..⟩)
  case h_14 =>
    split
    case h_1 | h_2 => exact takeShift_decodes fun _ _ _ => ⟨rfl, encOne_length ..⟩
    case h_4 => exact groupEB_decodes
    all_goals exact takeB_decodes (fun _ => ⟨rfl, rfl⟩) (by decide)
  case h_15 =>
    split
    case h_1 | h_2 => exact takeShift_decodes fun _ _ _ => ⟨rfl, encOne_length ..⟩
    case h_5 | h_6 => exact takeW_decodes (fun _ => ⟨rfl, rfl⟩) (by decide)
    case h_8 => exact error_decodes
    all_goals exact emit_decodes ⟨rfl, rfl⟩ (by decide)
  case h_16 =>
    split
    case h_1 | h_2 => exact takeAdjnz_decodes
    case h_5 | h_6 => exact takeA_decodes (fun _ => ⟨rfl, rfl⟩) (by decide)
    case h_7 => exact takeB_decodes (fun _ => ⟨rfl, rfl⟩) (by decide)
    all_goals exact emit_decodes ⟨rfl, rfl⟩ (by decide)

end

/-- R5, R100, R107, R142: every answer of the decoder is an instruction of the manual, read to its last byte. -/
theorem decode_decodes (x : Byte) (t : List Byte) : DecodesAt 1 t (decode (x :: t)) := by
  rw [decode]
  split
  · exact decodeLow_decodes
  · exact decodeHigh_decodes

/-- Settles O2: the first byte and those that `decode_decodes` says were read after it are as many as the instruction has. -/
theorem decodedIsInstruction : Obligations.DecodedIsInstruction := by
  intro bs i rest h
  cases bs with
  | nil => cases h
  | cons x t =>
    obtain ⟨hwf, hcanonical, hle, c, rfl, hlength⟩ := decode_decodes x t i rest h
    have hdrop : rest = (x :: (c ++ rest)).drop i.length := by
      rw [hlength, Nat.add_comm, List.drop_succ_cons, List.drop_left]
    exact ⟨hwf, hcanonical, by omega, hle, by simp [hlength]; omega, hdrop⟩

end Sys2Proof
end


section
/-! SUPPORT. How every instruction ends (R602, R640), and from it the progress of a step (R142, R615). -/

namespace Sys2Proof.Machine

/-! ### How every instruction ends -/

/-- The result is that of the instruction's end: PC goes somewhere, unless no code stands for the term. -/
def Retires (i : Instr) (r : Result) : Prop := ∃ a u, r = retireAt i a u

theorem retireAt_retires (i : Instr) (a : Addr) (u : State) : Retires i (retireAt i a u) := ⟨a, u, rfl⟩

theorem retire_retires (i : Instr) (u : State) : Retires i (retire i u) := retireAt_retires i _ u

theorem endIteration_retires (i : Instr) (s t : State) : Retires i (endIteration i s t) := by
  unfold endIteration
  dsimp only
  split
  · exact retire_retires ..
  · exact retireAt_retires ..

theorem softwareInterrupt_retires (i : Instr) (vec : Addr) (clearU : Bool) (s : State) : Retires i (softwareInterrupt i vec clearU s) :=
  retireAt_retires ..

theorem execInto_retires (s : State) : Retires .into (execInto s) := by
  unfold execInto
  split
  · exact softwareInterrupt_retires ..
  · exact retire_retires ..

theorem execSmovf_retires (sz : Size) (s : State) : Retires (.smovf sz) (execSmovf sz s) := by
  unfold execSmovf
  split
  · exact retire_retires ..
  · exact endIteration_retires ..

theorem execSmovb_retires (sz : Size) (s : State) : Retires (.smovb sz) (execSmovb sz s) := by
  unfold execSmovb
  split
  · exact retire_retires ..
  · exact endIteration_retires ..

theorem execSstr_retires (sz : Size) (s : State) : Retires (.sstr sz) (execSstr sz s) := by
  unfold execSstr
  split
  · exact retire_retires ..
  · exact endIteration_retires ..

theorem execRmpa_retires (sz : Size) (s : State) : Retires (.rmpa sz) (execRmpa sz s) := by
  unfold execRmpa
  split
  · exact retire_retires ..
  · dsimp only
    split
    · split
      · exact retire_retires ..
      · exact retireAt_retires ..
    · exact retire_retires ..

/-- Every meaning comes to the instruction's end, on every path: the machine has no fault (R602, R640). -/
theorem exec_retires (i : Instr) (s : State) : Retires i (exec i s) := by
  cases i with
  | into => exact execInto_retires s
  | smovf sz => exact execSmovf_retires sz s
  | smovb sz => exact execSmovb_retires sz s
  | sstr sz => exact execSstr_retires sz s
  | rmpa sz => exact execRmpa_retires sz s
  | _ => exact retireAt_retires ..

/-- Settles O5: at its end an instruction completes if it is well-formed, and is refused if not. -/
theorem wellFormedCompletes : Obligations.WellFormedCompletes := by
  intro i s
  obtain ⟨a, u, hexec⟩ := exec_retires i s
  rw [hexec]
  refine ⟨fun hwf => ⟨_, retireAt_selectable i a u hwf⟩, fun hwf => ?_⟩
  have hselectable : ¬ i.selectable = true := by
    rw [Instr.selectable, hwf]
    exact Bool.false_ne_true
  exact if_neg hselectable

/-! ### Progress -/

/-- Running the instruction at PC has a successor, or the bytes there are no code (R142). -/
theorem runOne_progress (s : State) :
    (∃ t, runOne s = .next t) ∨ ∃ e, decode (s.fetch s.pc fetchLength) = .error e ∧ runOne s = .refused (.undecodable e) := by
  unfold runOne
  cases hdecode : decode (s.fetch s.pc fetchLength) with
  | error e => exact .inr ⟨e, rfl, rfl⟩
  | ok answer =>
    obtain ⟨i, rest⟩ := answer
    obtain ⟨hwf, -⟩ := decodedIsInstruction _ i rest hdecode
    obtain ⟨t, hexec⟩ := (wellFormedCompletes i s.beginInstr).1 hwf
    exact .inl ⟨t.endInstr i s, by simp only [hexec]⟩

/-- A step that runs an instruction is `runOne`, and every other step has a successor (R615). -/
theorem step_eq_runOne_or_next (s : State) : (s.runsInstr ∧ step s = runOne s) ∨ ∃ t, step s = .next t := by
  unfold step
  split
  · exact .inr ⟨_, rfl⟩
  · next hreset =>
    rw [Bool.not_eq_true] at hreset
    split
    · next hshut =>
      rw [Bool.or_eq_true] at hshut
      exact .inl ⟨⟨hreset, hshut.imp_right .inl⟩, rfl⟩
    · split
      · exact .inr ⟨_, rfl⟩
      · next hnone =>
        split
        · exact .inr ⟨_, rfl⟩
        · next hwaiting =>
          rw [Bool.not_eq_true] at hwaiting
          exact .inl ⟨⟨hreset, .inr (.inr ⟨hnone, hwaiting⟩)⟩, rfl⟩

/-- Settles O7: of the two kinds of steps, the one that runs an instruction goes as `runOne_progress` says. -/
theorem stepProgress : Obligations.StepProgress := by
  intro s
  obtain ⟨hruns, hstep⟩ | hnext := step_eq_runOne_or_next s
  · rw [hstep]
    exact (runOne_progress s).imp_right fun hrefused => ⟨hruns, hrefused⟩
  · exact .inl hnext

end Sys2Proof.Machine
end


section
/-! SUPPORT. The effective addresses in plain arithmetic (R112 to R117, R120, R121, R125, R474). -/

namespace Sys2Proof.Machine

/-! ### Addresses as numbers -/

@[simp] theorem zext20_toNat (w : Word) : (zext20 w).toNat = w.toNat := by
  have hw := w.isLt
  rw [zext20, BitVec.toNat_setWidth]
  omega

/-- An unsigned byte added to a word. -/
theorem add_zeroExtend_toNat (w : Word) (d : Byte) : (w + d.zeroExtend 16).toNat = (w.toNat + d.toNat) % 65536 := by
  have hd := d.isLt
  rw [BitVec.toNat_add, BitVec.toNat_setWidth, Nat.mod_eq_of_lt (by omega : d.toNat < 2 ^ 16)]

/-- A signed byte added to a word. -/
theorem add_signExtend_toNat (w : Word) (d : Byte) : ((w + d.signExtend 16).toNat : Int) = (w.toNat + d.toInt) % 65536 := by
  have hsigned : (d.signExtend 16).toNat = (d.toInt % 65536).toNat := BitVec.toNat_ofInt d.toInt
  rw [BitVec.toNat_add, hsigned]
  omega

theorem shiftRight3_toNat {n : Nat} (x : BitVec n) : (x >>> 3).toNat = x.toNat / 8 := by
  rw [BitVec.toNat_ushiftRight, Nat.shiftRight_eq_div_pow]

theorem extractLow3_toNat {n : Nat} (x : BitVec n) : (x.extractLsb' 0 3).toNat = x.toNat % 8 := by
  rw [BitVec.extractLsb'_toNat, Nat.shiftRight_zero]

theorem sshiftRight3_toInt {n : Nat} (x : BitVec n) : (x.sshiftRight 3).toInt = x.toInt / 8 := by
  rw [BitVec.toInt_sshiftRight, Int.shiftRight_eq_div_pow]
  rfl

/-! ### Effective addresses -/

section
variable (s : State)

theorem ea_toNat (m : Mem) : (s.ea m).toNat = (s.ea16 m).toNat := zext20_toNat _

theorem ea_dsp8A_toNat (a : AReg) (d : Byte) : (s.ea (.dsp8A a d)).toNat = ((s.areg a).toNat + d.toNat) % 65536 :=
  (ea_toNat s _).trans (add_zeroExtend_toNat _ d)

theorem ea_dsp8SB_toNat (d : Byte) : (s.ea (.dsp8SB d)).toNat = (s.sb.toNat + d.toNat) % 65536 :=
  (ea_toNat s _).trans (add_zeroExtend_toNat _ d)

theorem ea_dsp8FB_toNat (d : Byte) : ((s.ea (.dsp8FB d)).toNat : Int) = (s.fb.toNat + d.toInt) % 65536 := by
  rw [ea_toNat]
  exact add_signExtend_toNat s.fb d

theorem ea_dsp16A_toNat (a : AReg) (d : Word) : (s.ea (.dsp16A a d)).toNat = ((s.areg a).toNat + d.toNat) % 65536 :=
  (ea_toNat s _).trans (BitVec.toNat_add _ d)

theorem ea_dsp16SB_toNat (d : Word) : (s.ea (.dsp16SB d)).toNat = (s.sb.toNat + d.toNat) % 65536 :=
  (ea_toNat s _).trans (BitVec.toNat_add _ d)

theorem eaSp_toNat (d : Byte) : ((s.eaSp d).toNat : Int) = (s.sp.toNat + d.toInt) % 65536 := by
  rw [State.eaSp, zext20_toNat, add_signExtend_toNat]

theorem eaDsp20_toNat (a : AReg) (d : Addr) : (s.eaDsp20 a d).toNat = ((s.areg a).toNat + d.toNat) % 1048576 := by
  rw [State.eaDsp20, BitVec.toNat_add, zext20_toNat]

theorem eaA1A0_toNat : s.eaA1A0.toNat = (s.areg .a1).toNat % 16 * 65536 + (s.areg .a0).toNat := by
  have h0 := (s.areg .a0).isLt
  have happend : (s.apair .a1a0).toNat = (s.areg .a1).toNat * 65536 + (s.areg .a0).toNat := by
    rw [State.apair, BitVec.toNat_append, ← Nat.shiftLeft_add_eq_or_of_lt s.bank.a0.isLt, Nat.shiftLeft_eq]
    rfl
  rw [State.eaA1A0, BitVec.extractLsb'_toNat, Nat.shiftRight_zero, happend]
  omega

/-- An address register selects a byte by its upper thirteen bits and a bit by its lower three (R125). -/
theorem bitPlace_ind (r : AReg) : ∃ a k, s.bitPlace (.ind r) = .mem a k ∧ a.toNat = (s.areg r).toNat / 8 ∧ k.toNat = (s.areg r).toNat % 8 :=
  ⟨_, _, rfl, by rw [zext20_toNat, shiftRight3_toNat], extractLow3_toNat _⟩

theorem bitPlace_base8A (r : AReg) (b : Byte) : ∃ a k, s.bitPlace (.base8A r b) = .mem a k ∧
    a.toNat = (b.toNat + (s.areg r).toNat / 8) % 65536 ∧ k.toNat = (s.areg r).toNat % 8 :=
  ⟨_, _, rfl, by rw [zext20_toNat, BitVec.add_comm, add_zeroExtend_toNat, shiftRight3_toNat, Nat.add_comm], extractLow3_toNat _⟩

theorem bitPlace_base8SB (c : Byte) : ∃ a k, s.bitPlace (.base8SB c) = .mem a k ∧
    a.toNat = (s.sb.toNat + c.toNat / 8) % 65536 ∧ k.toNat = c.toNat % 8 :=
  ⟨_, _, rfl, by rw [zext20_toNat, add_zeroExtend_toNat, shiftRight3_toNat], extractLow3_toNat _⟩

theorem bitPlace_base8FB (c : Byte) : ∃ a k, s.bitPlace (.base8FB c) = .mem a k ∧
    (a.toNat : Int) = (s.fb.toNat + c.toInt / 8) % 65536 ∧ k.toNat = c.toNat % 8 :=
  ⟨_, _, rfl, by rw [zext20_toNat, add_signExtend_toNat, sshiftRight3_toInt], extractLow3_toNat _⟩

theorem bitPlace_base16A (r : AReg) (b : Word) : ∃ a k, s.bitPlace (.base16A r b) = .mem a k ∧
    a.toNat = (b.toNat + (s.areg r).toNat / 8) % 65536 ∧ k.toNat = (s.areg r).toNat % 8 :=
  ⟨_, _, rfl, by rw [zext20_toNat, BitVec.toNat_add, shiftRight3_toNat], extractLow3_toNat _⟩

theorem bitPlace_base16SB (c : Word) : ∃ a k, s.bitPlace (.base16SB c) = .mem a k ∧
    a.toNat = (s.sb.toNat + c.toNat / 8) % 65536 ∧ k.toNat = c.toNat % 8 :=
  ⟨_, _, rfl, by rw [zext20_toNat, BitVec.toNat_add, shiftRight3_toNat], extractLow3_toNat _⟩

theorem bitPlace_base16 (c : Word) : ∃ a k, s.bitPlace (.base16 c) = .mem a k ∧ a.toNat = c.toNat / 8 ∧ k.toNat = c.toNat % 8 :=
  ⟨_, _, rfl, by rw [zext20_toNat, shiftRight3_toNat], extractLow3_toNat _⟩

theorem bitPlaceS_mem (k : BitVec 3) (d : Byte) :
    ∃ a, s.bitPlaceS k d = .mem a k ∧ a.toNat = (s.sb.toNat + d.toNat) % 65536 :=
  ⟨_, rfl, by rw [zext20_toNat, add_zeroExtend_toNat]⟩

end

/-- Settles O16, addressing mode by addressing mode. -/
theorem addresses : Obligations.Addresses := by
  intro s
  exact ⟨fun _ => ea_toNat s _, ea_dsp8A_toNat s, ea_dsp8SB_toNat s, ea_dsp8FB_toNat s, ea_dsp16A_toNat s, ea_dsp16SB_toNat s,
    fun _ => ea_toNat s _, eaSp_toNat s, eaDsp20_toNat s, eaA1A0_toNat s, fun _ _ => rfl, fun _ _ => rfl, fun _ => rfl, eaDsp20_toNat s,
    bitPlace_ind s, bitPlace_base8A s, bitPlace_base8SB s, bitPlace_base8FB s, bitPlace_base16A s, bitPlace_base16SB s, bitPlace_base16 s,
    bitPlaceS_mem s⟩

end Sys2Proof.Machine
end


section
/-! SUPPORT. How an instruction completes, and what a store leaves behind (R29, R63, R71, R128): the words of the statements `Completes`, `Stored`,
`Updates8` and `Updates16`, each said once of the shared operations. -/

namespace Sys2Proof.Machine

/-! ### Completion -/

/-- An instruction that goes on to the next one completes, if a code stands for it (R29). -/
theorem completes_of_retire {i : Instr} {s u : State} {P : State → Prop} (hexec : exec i s = retire i u) (hwf : i.wellFormed = true)
    (hpc : u.pc = s.pc) (hP : P { u with pc := s.nextPc i }) : Completes i s P := by
  have hnext : u.nextPc i = s.nextPc i := by rw [State.nextPc, State.nextPc, hpc]
  exact ⟨_, hexec.trans (retire_selectable i u hwf), hnext, by rwa [hnext]⟩

/-- S and Z of a result, as the model computes them and in plain arithmetic (R128). -/
theorem setSZ_eq_signZero {n : Nat} (f : Flg) (v : BitVec n) : setSZ f v = signZero f v := by
  simp only [setSZ, signZero, BitVec.msb_eq_decide, BitVec.toNat_eq]
  rfl

@[simp] theorem setSZ_b {n : Nat} (f : Flg) (v : BitVec n) : (setSZ f v).b = f.b := rfl

/-! ### Stored bytes -/

section
variable {s t u : State} {a p : Addr} {bs : List Byte}

/-- Registers and flags do not matter to the bytes that have been stored. -/
theorem Stored.of_same_image (h : Stored t a bs) (hmem : u.mem = t.mem) (hlayout : u.layout = t.layout) (hlog : u.platformLog = t.platformLog) :
    Stored u a bs := by
  simpa only [Stored, MemIs, State.peek, hmem, hlayout, hlog] using h

theorem Stored.with_pc (h : Stored t a bs) : Stored { t with pc := p } a bs := h

theorem Stored.setFlg (h : Stored t a bs) (f : Flg) : Stored (t.setFlg f) a bs := h

/-- The platform sees the bytes outside writable memory, and no others (R71, R72). -/
theorem writeByte_platformLog (s : State) (a : Addr) (v : Byte) :
    (writeByte s a v).platformLog = deviceWrites s.layout a [v] ++ s.platformLog := by
  cases hw : s.layout.isWritable a <;> simp [deviceWrites, writeByte, hw]

theorem write16_platformLog (s : State) (a : Addr) (v : Word) :
    (write16 s a v).platformLog = deviceWrites s.layout a (wordBytes v) ++ s.platformLog := by
  simp [write16, writeByte_platformLog, deviceWrites, wordBytes]

theorem stored_writeByte (hm : Memory.wf s.mem = true) (v : Byte) : Stored (writeByte s a v) a [v] := by
  constructor
  · intro k w hk
    obtain ⟨rfl, rfl⟩ : k = 0 ∧ w = v := by
      cases k <;> simp_all
    intro hw
    rw [writeByte_layout] at hw
    simpa using writeByte_peek_same s a w hm (by simpa using hw)
  · rw [writeByte_layout, writeByte_platformLog]
    exact ⟨s.platformLog, rfl⟩

theorem stored_write16 (hm : Memory.wf s.mem = true) (v : Word) : Stored (write16 s a v) a (wordBytes v) := by
  constructor
  · intro k w hk hw
    rw [write16_layout] at hw
    match k with
    | 0 =>
      obtain rfl : loByte v = w := by simpa [wordBytes] using hk
      simpa using write16_peek_lo s a v hm (by simpa using hw)
    | 1 =>
      obtain rfl : hiByte v = w := by simpa [wordBytes] using hk
      exact write16_peek_hi s a v hm hw
    | k + 2 => simp [wordBytes] at hk
  · rw [write16_layout, write16_platformLog]
    exact ⟨s.platformLog, rfl⟩

theorem stored_push8 (hm : Memory.wf s.mem = true) (v : Byte) : Stored (push8 s v) (zext20 (s.sp - 1)) [v] :=
  stored_writeByte (by simpa using hm) v

theorem stored_push16 (hm : Memory.wf s.mem = true) (v : Word) : Stored (push16 s v) (zext20 (s.sp - 2)) (wordBytes v) :=
  stored_write16 (by simpa using hm) v

end

/-! ### Destinations -/

section
variable {law : Law} {s t u : State} {p : Addr} {dst : Operand}

theorem Updates8.with_pc {x : Byte} (h : Updates8 law x u t dst) : Updates8 law x u { t with pc := p } dst := by
  cases dst <;> exact h

theorem Updates16.with_pc {x : Word} (h : Updates16 law x u t dst) : Updates16 law x u { t with pc := p } dst := by
  cases dst <;> exact h

theorem UpdatesFrom.with_pc {sz : Size} {src : Operand} (h : UpdatesFrom law sz src dst s t) :
    UpdatesFrom law sz src dst s { t with pc := p } := by
  cases sz
  · exact Updates8.with_pc h
  · exact Updates16.with_pc h

theorem UpdatesImm.with_pc {v : Imm} (h : UpdatesImm law v dst s t) : UpdatesImm law v dst s { t with pc := p } := by
  cases v
  · exact Updates8.with_pc h
  · exact Updates16.with_pc h

/-- A `.B` write to a destination whose flags and addresses were those of `u`. -/
theorem writeDest8_copies (hm : Memory.wf s.mem = true) (hflg : s.flg = u.flg) (hea : ∀ m, s.ea m = u.ea m) (x : Byte) (dst : Operand) :
    Updates8 Copies x u (writeDest8 s dst x) dst := by
  cases dst with
  | dreg r => exact ⟨setByte_byte s r x, (setByte_flg s r x).trans hflg⟩
  | areg a => exact ⟨setAreg_areg s a _, (setAreg_flg s a _).trans hflg⟩
  | mem m => exact ⟨x, ⟨rfl, (writeByte_flg s _ x).trans hflg⟩, by rw [← hea]; exact stored_writeByte hm x⟩

theorem writeDest16_copies (hm : Memory.wf s.mem = true) (hflg : s.flg = u.flg) (hea : ∀ m, s.ea m = u.ea m) (x : Word) (dst : Operand) :
    Updates16 Copies x u (writeDest16 s dst x) dst := by
  cases dst with
  | dreg r => exact ⟨setWord_word s r x, (setWord_flg s r x).trans hflg⟩
  | areg a => exact ⟨setAreg_areg s a x, (setAreg_flg s a x).trans hflg⟩
  | mem m => exact ⟨x, ⟨rfl, (write16_flg s _ x).trans hflg⟩, by rw [← hea]; exact stored_write16 hm x⟩

end

end Sys2Proof.Machine
end


section
/-! SUPPORT. Register lists (R220, R226): PUSHM and POPM as one transfer for each selected register, by induction on the list of them, and that the
one undoes the other. -/

namespace Sys2Proof.Machine

/-! ### A listed register as a place -/

/-- Writes a register that PUSHM and POPM can select. -/
def State.setListed (s : State) : Listed → Word → State
  | .word r, v => s.setWord r v
  | .areg a, v => s.setAreg a v
  | .sb, v => { s with sb := v }
  | .fb, v => s.setFb v

section
variable (s : State) (r q : Listed) (v : Word)

@[simp] theorem setListed_mem : (s.setListed r v).mem = s.mem := by
  cases r <;> simp [State.setListed]

@[simp] theorem setListed_layout : (s.setListed r v).layout = s.layout := by
  cases r <;> simp [State.setListed]

@[simp] theorem setListed_listed : (s.setListed r v).listed r = v := by
  cases r <;> simp [State.setListed, State.listed]

theorem setListed_listed_ne (h : q ≠ r) : (s.setListed r v).listed q = s.listed q := by
  cases r with
  | word r => cases q with
    | word q => exact setWord_word_ne s r q v fun hqr => h (hqr ▸ rfl)
    | areg | sb | fb => simp [State.setListed, State.listed]
  | areg a => cases q with
    | areg b => exact setAreg_areg_ne s a b v fun hba => h (hba ▸ rfl)
    | word | sb | fb => simp [State.setListed, State.listed]
  | sb => cases q with
    | sb => exact absurd rfl h
    | word | areg | fb => rfl
  | fb => cases q with
    | fb => exact absurd rfl h
    | word | areg | sb => simp [State.setListed, State.listed]

theorem setBank_self : s.setBank s.bank = s := by
  unfold State.setBank State.bank
  cases s.flg.b <;> rfl

/-- Writing a register back changes nothing. -/
theorem setListed_self : s.setListed r (s.listed r) = s := by
  cases r with
  | word r => cases r <;> exact setBank_self s
  | areg a => cases a <;> exact setBank_self s
  | sb => rfl
  | fb => exact setBank_self s

end

/-- The listed registers are those of the selected bank, and SB. -/
theorem listed_of_bank_eq {s t : State} (hbank : t.bank = s.bank) (hsb : t.sb = s.sb) (r : Listed) : t.listed r = s.listed r := by
  cases r with
  | word r => cases r <;> simp only [State.listed, State.word, hbank]
  | areg a => cases a <;> simp only [State.listed, State.areg, hbank]
  | sb => exact hsb
  | fb => simp only [State.listed, State.fb, hbank]

/-! ### The selected registers -/

/-- All eight registers, in the order of rising addresses. -/
def allListed : List Listed :=
  [.word .r0lR0, .word .r0hR1, .word .r1lR2, .word .r1hR3, .areg .a0, .areg .a1, .sb, .fb]

theorem selected_sublist (l : RegList) : (RegList.selected l).Sublist allListed := by
  have h (b : Bool) (r : Listed) : (if b then [r] else []).Sublist [r] := by
    cases b
    · exact List.nil_sublist _
    · exact List.Sublist.refl _
  exact (((((((h l.r0 _).append (h l.r1 _)).append (h l.r2 _)).append (h l.r3 _)).append (h l.a0 _)).append (h l.a1 _)).append
    (h l.sb _)).append (h l.fb _)

theorem selected_nodup (l : RegList) : (RegList.selected l).Nodup :=
  (selected_sublist l).nodup (by decide)

theorem selected_length_le (l : RegList) : (RegList.selected l).length ≤ 8 := (selected_sublist l).length_le

theorem selected_length (l : RegList) : (RegList.selected l).length = RegList.count l := by
  have h (b : Bool) (r : Listed) : (if b then [r] else []).length = b.toNat := by cases b <;> rfl
  simp only [RegList.selected, List.length_append, h, RegList.count]

/-! ### The transfers of a list -/

/-- Stores the listed registers below the pointer, the last one first (R226). -/
def storeList (rs : List Listed) (x : State × Word) : State × Word :=
  rs.foldr (fun r y => storeIf true (State.listed · r) y) x

/-- Loads the listed registers from the pointer on, the first one first (R220). -/
def loadList (rs : List Listed) (x : State × Word) : State × Word :=
  rs.foldl (fun y r => loadIf true (State.setListed · r ·) y) x

theorem storeList_append (rs qs : List Listed) (x : State × Word) : storeList (rs ++ qs) x = storeList rs (storeList qs x) :=
  List.foldr_append ..

theorem loadList_append (rs qs : List Listed) (x : State × Word) : loadList (rs ++ qs) x = loadList qs (loadList rs x) :=
  List.foldl_append ..

theorem storeList_if (b : Bool) (r : Listed) (x : State × Word) :
    storeList (if b then [r] else []) x = storeIf b (State.listed · r) x := by
  cases b <;> rfl

theorem loadList_if (b : Bool) (r : Listed) (x : State × Word) :
    loadList (if b then [r] else []) x = loadIf b (State.setListed · r ·) x := by
  cases b <;> rfl

/-- PUSHM's transfers are those of the selected registers. -/
theorem storeRegs_eq_storeList (l : RegList) (s : State) (p : Word) : storeRegs l s p = storeList (RegList.selected l) (s, p) := by
  simp only [RegList.selected, storeList_append, storeList_if]
  rfl

/-- POPM's transfers are those of the selected registers. -/
theorem loadRegs_eq_loadList (l : RegList) (s : State) (p : Word) : loadRegs l s p = loadList (RegList.selected l) (s, p) := by
  simp only [RegList.selected, loadList_append, loadList_if]
  rfl

theorem storeList_cons (r : Listed) (rs : List Listed) (x : State × Word) :
    storeList (r :: rs) x =
      (write16 (storeList rs x).1 (zext20 ((storeList rs x).2 - 2)) ((storeList rs x).1.listed r), (storeList rs x).2 - 2) := rfl

theorem loadList_cons (r : Listed) (rs : List Listed) (s : State) (p : Word) :
    loadList (r :: rs) (s, p) = loadList rs ((read16 s (zext20 p)).2.setListed r (read16 s (zext20 p)).1, p + 2) := rfl

/-! ### Storing a list -/

/-- The address of word `j` of a list whose lowest word lies at `q`. -/
def wordAddr (q : Word) (j : Nat) : Addr := zext20 (q + BitVec.ofNat 16 (2 * j))

@[simp] theorem wordAddr_zero (q : Word) : wordAddr q 0 = zext20 q := by simp [wordAddr]

theorem wordAddr_succ (q : Word) (j : Nat) : wordAddr q (j + 1) = wordAddr (q + 2) j := by
  have h : q + BitVec.ofNat 16 (2 * (j + 1)) = q + 2 + BitVec.ofNat 16 (2 * j) := by bv_omega
  rw [wordAddr, wordAddr, h]

/-- The bytes of word `j + 1` are none of those of word 0, as long as the list does not wrap around the 64 Kbytes of the stack. -/
theorem wordAddr_apart (q : Word) {j : Nat} (h : j < 32767) :
    wordAddr (q + 2) j ≠ zext20 q ∧ wordAddr (q + 2) j ≠ zext20 q + 1 ∧
    wordAddr (q + 2) j + 1 ≠ zext20 q ∧ wordAddr (q + 2) j + 1 ≠ zext20 q + 1 := by
  have hq := q.isLt
  have hadr : (wordAddr (q + 2) j).toNat = (q.toNat + 2 + 2 * j) % 65536 := by
    rw [wordAddr, zext20_toNat]
    simp [BitVec.toNat_add]
  have hone : (1 : Addr).toNat = 1 := rfl
  simp only [ne_eq, BitVec.toNat_eq, BitVec.toNat_add, hadr, zext20_toNat, hone]
  omega

section
variable (rs : List Listed) (s : State) (p : Word)

theorem storeList_snd : (storeList rs (s, p)).2 = p - BitVec.ofNat 16 (2 * rs.length) := by
  induction rs with
  | nil => exact (BitVec.sub_zero p).symm
  | cons r rs ih =>
    rw [storeList_cons, ih, List.length_cons]
    bv_omega

@[simp] theorem storeList_listed (q : Listed) : (storeList rs (s, p)).1.listed q = s.listed q := by
  induction rs with
  | nil => rfl
  | cons r rs ih => rw [storeList_cons, ← ih]; exact listed_of_bank_eq (write16_bank _ _ _) (write16_sb _ _ _) q

theorem storeList_wf (hm : Memory.wf s.mem = true) : Memory.wf (storeList rs (s, p)).1.mem = true := by
  induction rs with
  | nil => exact hm
  | cons r rs ih => exact write16_wf _ _ _ ih

end

/-- The words of the listed registers of `s` lie in writable memory of `t` from `q` on. -/
def HoldsList (s t : State) (rs : List Listed) (q : Word) : Prop :=
  ∀ j r, rs[j]? = some r → MemIs t (wordAddr q j) (loByte (s.listed r)) ∧ MemIs t (wordAddr q j + 1) (hiByte (s.listed r))

/-- A word stored over none of the bytes of a list leaves them in memory. -/
theorem MemIs.write16_of_ne {t : State} {a b : Addr} {x : Byte} {v : Word} (h : MemIs t b x) (h0 : b ≠ a) (h1 : b ≠ a + 1) :
    MemIs (write16 t a v) b x := by
  intro hw
  rw [write16_peek_ne _ _ _ _ h0 h1]
  exact h (by simpa using hw)

/-- Storing a list leaves its registers as words from the last pointer on. -/
theorem storeList_holds (rs : List Listed) (s : State) (p : Word) (hm : Memory.wf s.mem = true) (hlen : rs.length ≤ 32767) :
    HoldsList s (storeList rs (s, p)).1 rs (storeList rs (s, p)).2 := by
  induction rs with
  | nil => intro j r hj; simp at hj
  | cons r rs ih =>
    rw [List.length_cons] at hlen
    have hwf := storeList_wf rs s p hm
    rw [storeList_cons, storeList_listed]
    set y := storeList rs (s, p)
    intro j q hj
    match j with
    | 0 =>
      obtain rfl : r = q := by simpa using hj
      rw [wordAddr_zero]
      exact ⟨fun hw => write16_peek_lo _ _ _ hwf (by simpa using hw), fun hw => write16_peek_hi _ _ _ hwf (by simpa using hw)⟩
    | j + 1 =>
      obtain ⟨hlo, hhi⟩ := ih (by omega) j q (by simpa using hj)
      have hlt : j < rs.length := (List.getElem?_eq_some_iff.1 (by simpa using hj)).1
      have hback : y.2 - 2 + 2 = y.2 := by bv_omega
      have hapart := wordAddr_apart (y.2 - 2) (j := j) (by omega)
      rw [hback] at hapart
      obtain ⟨h00, h01, h10, h11⟩ := hapart
      rw [wordAddr_succ, hback]
      exact ⟨hlo.write16_of_ne h00 h01, hhi.write16_of_ne h10 h11⟩

/-! ### Loading a list -/

/-- A word read from plain memory. -/
theorem read16_fst (s : State) (a : Addr) (hlo : s.layout.inImage a = true) (hhi : s.layout.inImage (a + 1) = true) :
    (read16 s a).1 = s.peek (a + 1) ++ s.peek a := by
  have hi : (readByte (readByte s a).2 (a + 1)).1 = s.peek (a + 1) := by
    rw [readByte_fst _ _ (by simpa using hhi), readByte_snd, afterRead_peek]
  rw [← readByte_fst s a hlo, ← hi]
  rfl

theorem loadList_snd (rs : List Listed) (s : State) (p : Word) : (loadList rs (s, p)).2 = p + BitVec.ofNat 16 (2 * rs.length) := by
  induction rs generalizing s p with
  | nil => exact (BitVec.add_zero p).symm
  | cons r rs ih =>
    rw [loadList_cons, ih, List.length_cons]
    bv_omega

theorem loadList_listed_of_not_mem (rs : List Listed) (s : State) (p : Word) {q : Listed} (hq : q ∉ rs) :
    (loadList rs (s, p)).1.listed q = s.listed q := by
  induction rs generalizing s p with
  | nil => rfl
  | cons r rs ih =>
    rw [List.mem_cons, not_or] at hq
    obtain ⟨hqr, hqrs⟩ := hq
    rw [loadList_cons, ih _ _ hqrs, setListed_listed_ne _ _ _ _ hqr]
    exact listed_of_bank_eq (by simp) (by simp) q

/-- The listed registers of `t` hold the words that plain memory of `s` has from `p` on. -/
def LoadsList (s t : State) (rs : List Listed) (p : Word) : Prop :=
  ∀ j r, rs[j]? = some r → s.layout.inImage (wordAddr p j) = true → s.layout.inImage (wordAddr p j + 1) = true →
    t.listed r = s.peek (wordAddr p j + 1) ++ s.peek (wordAddr p j)

theorem loadList_loads (rs : List Listed) (s : State) (p : Word) (hnodup : rs.Nodup) : LoadsList s (loadList rs (s, p)).1 rs p := by
  induction rs generalizing s p with
  | nil => intro j r hj; simp at hj
  | cons r rs ih =>
    obtain ⟨hr, hrs⟩ := List.nodup_cons.1 hnodup
    rw [loadList_cons]
    intro j q hj hlo hhi
    match j with
    | 0 =>
      obtain rfl : r = q := by simpa using hj
      rw [wordAddr_zero] at hlo hhi ⊢
      rw [loadList_listed_of_not_mem _ _ _ hr, setListed_listed, read16_fst s _ hlo hhi]
    | j + 1 =>
      rw [wordAddr_succ] at hlo hhi ⊢
      have h := ih ((read16 s (zext20 p)).2.setListed r (read16 s (zext20 p)).1) (p + 2) hrs j q (by simpa using hj)
        (by simpa using hlo) (by simpa using hhi)
      simpa [State.peek] using h

/-! ### PUSHM and POPM -/

section
variable (l : RegList) (s : State) (p : Word)

theorem storeRegs_snd : (storeRegs l s p).2 = p - BitVec.ofNat 16 (2 * RegList.count l) := by
  rw [storeRegs_eq_storeList, storeList_snd, selected_length]

theorem loadRegs_snd : (loadRegs l s p).2 = p + BitVec.ofNat 16 (2 * RegList.count l) := by
  rw [loadRegs_eq_loadList, loadList_snd, selected_length]

/-- The selected registers lie in memory from the last pointer on (R226). -/
theorem storeRegs_holds (hm : Memory.wf s.mem = true) : HoldsRegs s (storeRegs l s p).1 l (storeRegs l s p).2 := by
  rw [storeRegs_eq_storeList]
  exact storeList_holds _ s p hm ((selected_length_le l).trans (by decide))

/-- The selected registers take the words from the pointer on (R220). -/
theorem loadRegs_loads : LoadsRegs s (loadRegs l s p).1 l p := by
  rw [loadRegs_eq_loadList]
  exact loadList_loads _ s p (selected_nodup l)

end

/-- Registers other than the listed ones do not matter to what a list has left in memory. -/
theorem holdsRegs_of_same_image {s t u : State} {l : RegList} {p q : Word} (h : HoldsRegs s t l p) (hmem : u.mem = t.mem)
    (hlayout : u.layout = t.layout) (hq : q = p) : HoldsRegs s u l q := by
  subst hq
  simpa only [HoldsRegs, MemIs, State.peek, hmem, hlayout] using h

theorem loadsRegs_of_same_registers {s t u : State} {l : RegList} {p : Word} (h : LoadsRegs s t l p) (hbank : u.bank = t.bank)
    (hsb : u.sb = t.sb) : LoadsRegs s u l p :=
  fun j r hj hlo hhi => (listed_of_bank_eq hbank hsb r).trans (h j r hj hlo hhi)

/-- Settles O38: what the transfers of PUSHM and POPM leave, and that the stack pointer ends behind them. -/
theorem registerLists : Obligations.RegisterLists := by
  intro s l hm
  constructor
  · refine completes_of_retire rfl rfl (by simp) ⟨(setSp_sp _ _).trans (storeRegs_snd l s s.sp), ?_⟩
    exact holdsRegs_of_same_image (storeRegs_holds l s s.sp hm) (setSp_mem _ _) (setSp_layout _ _) (setSp_sp _ _)
  · refine completes_of_retire rfl rfl (by simp) ⟨(setSp_sp _ _).trans (loadRegs_snd l s s.sp), ?_⟩
    exact loadsRegs_of_same_registers (loadRegs_loads l s s.sp) (setSp_bank _ _) (setSp_sb _ _)

/-! ### POPM undoes PUSHM -/

/-- Word `j` of the `k` words pushed from `p`, counted from the last one up, is among the bytes stored. -/
theorem wordAddr_mem_wordsBelow (p : Word) {j k : Nat} (h : j < k) :
    wordAddr (p - BitVec.ofNat 16 (2 * k)) j ∈ wordsBelow p k ∧ wordAddr (p - BitVec.ofNat 16 (2 * k)) j + 1 ∈ wordsBelow p k := by
  induction k generalizing p with
  | zero => omega
  | succ k ih =>
    have hnext : p - BitVec.ofNat 16 (2 * (k + 1)) = p - 2 - BitVec.ofNat 16 (2 * k) := by bv_omega
    simp only [wordsBelow, List.mem_append, hnext]
    by_cases hjk : j < k
    · obtain ⟨hlo, hhi⟩ := ih (p - 2) hjk
      exact ⟨.inr hlo, .inr hhi⟩
    · obtain rfl : j = k := by omega
      have htop : wordAddr (p - 2 - BitVec.ofNat 16 (2 * j)) j = zext20 (p - 2) := by
        rw [wordAddr, BitVec.sub_add_cancel]
      rw [htop, wordBelow, mem_bytesFrom_two, mem_bytesFrom_two]
      exact ⟨.inl (.inl rfl), .inl (.inr rfl)⟩

/-- Loading a list from plain memory that holds its registers changes nothing. -/
theorem loadList_of_holds (rs : List Listed) (t : State) (q : Word)
    (hwritable : ∀ j, j < rs.length → t.layout.isWritable (wordAddr q j) = true ∧ t.layout.isWritable (wordAddr q j + 1) = true)
    (hholds : HoldsList t t rs q) : (loadList rs (t, q)).1 = t := by
  induction rs generalizing q with
  | nil => rfl
  | cons r rs ih =>
    obtain ⟨hwlo, hwhi⟩ := hwritable 0 (Nat.zero_lt_succ _)
    obtain ⟨hlo, hhi⟩ := hholds 0 r rfl
    rw [wordAddr_zero] at hwlo hwhi hlo hhi
    have hilo := Layout.inImage_of_isWritable hwlo
    have hihi := Layout.inImage_of_isWritable hwhi
    have hvalue : (read16 t (zext20 q)).1 = t.listed r := by
      rw [read16_fst t _ hilo hihi, hlo hwlo, hhi hwhi, hiByte_append_loByte]
    have hstate : (read16 t (zext20 q)).2 = t := by
      rw [read16_snd, afterRead_plain t _ hilo, afterRead_plain t _ hihi]
    rw [loadList_cons, hvalue, hstate, setListed_self]
    refine ih (q + 2) (fun j hj => ?_) (fun j r hj => ?_)
    · rw [← wordAddr_succ]
      exact hwritable (j + 1) (Nat.succ_lt_succ hj)
    · rw [← wordAddr_succ]
      exact hholds (j + 1) r hj

section
variable {l : RegList} {s t : State}

/-- The registers after PUSHM: all as they were but the selected stack pointer. -/
theorem pushm_next (hpush : exec (.pushm l) s = .next t) :
    t.bank0 = s.bank0 ∧ t.bank1 = s.bank1 ∧ t.sb = s.sb ∧ t.flg = s.flg ∧ t.layout = s.layout ∧
    (t.setSp s.sp).usp = s.usp ∧ (t.setSp s.sp).isp = s.isp := by
  obtain ⟨-, rfl⟩ := (retire_next (.pushm l) _ t).1 hpush
  refine ⟨by simp, by simp, by simp, by simp, by simp, ?_⟩
  unfold State.setSp State.sp
  cases hu : s.flg.u <;> simp [hu]

/-- POPM right after PUSHM loads what the registers hold, and the stack pointer is back. -/
theorem loadRegs_of_pushm (hm : Memory.wf s.mem = true) (hpush : exec (.pushm l) s = .next t)
    (hwritable : ∀ a ∈ wordsBelow s.sp (RegList.count l), s.layout.isWritable a = true) : loadRegs l t t.sp = (t, s.sp) := by
  obtain ⟨hbank0, hbank1, hsb, hflg, hlayout, -, -⟩ := pushm_next hpush
  obtain ⟨_, hnext, -, hsp, hholds⟩ := (registerLists s l hm).1
  obtain rfl : t = _ := Host.Outcome.next.inj (hpush.symm.trans hnext)
  have hbank : t.bank = s.bank := by simp only [State.bank, hflg, hbank0, hbank1]
  have hself : HoldsRegs t t l t.sp := by
    intro j r hj
    rw [listed_of_bank_eq hbank hsb r]
    exact hholds j r hj
  refine Prod.ext ?_ ?_
  · rw [loadRegs_eq_loadList]
    refine loadList_of_holds _ t t.sp (fun j hj => ?_) hself
    rw [selected_length] at hj
    obtain ⟨hlo, hhi⟩ := wordAddr_mem_wordsBelow s.sp hj
    rw [hlayout, hsp]
    exact ⟨hwritable _ hlo, hwritable _ hhi⟩
  · rw [loadRegs_snd, hsp, BitVec.sub_add_cancel]

end

/-- Settles O39: PUSHM leaves the registers in the words that POPM reads, so that each load puts back what its register holds. -/
theorem popmUndoesPushm : Obligations.PopmUndoesPushm := by
  intro l s t hm hpush hwritable
  obtain ⟨hbank0, hbank1, hsb, hflg, -, husp, hisp⟩ := pushm_next hpush
  have hexec : exec (.popm l) t = retire (.popm l) (t.setSp s.sp) := by
    change retire (.popm l) ((loadRegs l t t.sp).1.setSp (loadRegs l t t.sp).2) = _
    rw [loadRegs_of_pushm hm hpush hwritable]
  exact ⟨_, hexec.trans (retire_selectable _ _ rfl), (setSp_bank0 t _).trans hbank0, (setSp_bank1 t _).trans hbank1,
    (setSp_sb t _).trans hsb, husp, hisp, (setSp_flg t _).trans hflg⟩

end Sys2Proof.Machine
end


section
/-! SUPPORT. The transfer instructions (40_transfer.md): what the shared moves, stores and exchanges leave in the destination and in FLG, and from it
the statements about MOV, LDE, STE, STZ, STNZ, STZX, XCHG, MOVDir and MOVA. -/

namespace Sys2Proof.Machine

/-! ### PC during a transfer (R28) -/

section
variable (s : State)

@[simp] theorem move8_pc (x : Byte) (dst : Operand) : (move8 x dst s).pc = s.pc := by
  cases dst <;> simp [move8]

@[simp] theorem move16_pc (x : Word) (dst : Operand) : (move16 x dst s).pc = s.pc := by
  simp [move16]

@[simp] theorem moveG_pc (sz : Size) (src dst : Operand) : (moveG sz src dst s).pc = s.pc := by
  cases sz <;> simp [moveG]

@[simp] theorem moveImm_pc (v : Imm) (dst : Operand) : (moveImm v dst s).pc = s.pc := by
  cases v <;> simp [moveImm]

@[simp] theorem moveFrom_pc (sz : Size) (a : Addr) (dst : Operand) : (moveFrom sz a dst s).pc = s.pc := by
  cases sz <;> simp [moveFrom]

@[simp] theorem moveToSp_pc (sz : Size) (src : Operand) (d : Byte) : (moveToSp sz src d s).pc = s.pc := by
  cases sz <;> simp [moveToSp]

@[simp] theorem storeExtended_pc (sz : Size) (src : Operand) (a : Addr) : (storeExtended sz src a s).pc = s.pc := by
  cases sz <;> simp [storeExtended]

@[simp] theorem popOperand_pc (sz : Size) (dst : Operand) : (popOperand sz dst s).pc = s.pc := by
  cases sz <;> simp [popOperand]

@[simp] theorem exchange_pc (sz : Size) (r : DReg) (dst : Operand) : (exchange sz r dst s).pc = s.pc := by
  cases sz <;> simp [exchange]

end

/-! ### MOV and LDE (R201, R227) -/

section
variable {s : State}

theorem moves_setSZ {n : Nat} {f : Flg} {x r : BitVec n} (d : BitVec n) (h : r = x) : Moves n f d x r (setSZ f x) :=
  ⟨h, by rw [h, setSZ_eq_signZero]⟩

/-- MOV with `.B`: the byte in the destination, zero-extended into A0 and A1, and S and Z of what is stored. -/
theorem move8_updates (hm : Memory.wf s.mem = true) (x : Byte) (dst : Operand) : Updates8 Moves x s (move8 x dst s) dst := by
  cases dst with
  | dreg r => exact moves_setSZ (s.byte r) ((setFlg_byte _ _ (by simp) r).trans (setByte_byte s r x))
  | areg a => exact moves_setSZ (s.areg a) ((setFlg_areg _ _ (by simp) a).trans (setAreg_areg s a _))
  | mem m => exact ⟨x, moves_setSZ _ rfl, (stored_writeByte hm x).setFlg _⟩

theorem move16_updates (hm : Memory.wf s.mem = true) (x : Word) (dst : Operand) : Updates16 Moves x s (move16 x dst s) dst := by
  cases dst with
  | dreg r => exact moves_setSZ (s.word r) ((setFlg_word _ _ (by simp [writeDest16]) r).trans (setWord_word s r x))
  | areg a => exact moves_setSZ (s.areg a) ((setFlg_areg _ _ (by simp [writeDest16]) a).trans (setAreg_areg s a x))
  | mem m => exact ⟨x, moves_setSZ _ rfl, (stored_write16 hm x).setFlg _⟩

theorem moveG_updates (hm : Memory.wf s.mem = true) (sz : Size) (src dst : Operand) :
    UpdatesFrom Moves sz src dst s (moveG sz src dst s) := by
  cases sz
  · exact move8_updates (by simpa using hm) _ dst
  · exact move16_updates (by simpa using hm) _ dst

theorem moveImm_updates (hm : Memory.wf s.mem = true) (v : Imm) (dst : Operand) : UpdatesImm Moves v dst s (moveImm v dst s) := by
  cases v
  · exact move8_updates hm _ dst
  · exact move16_updates hm _ dst

end

/-- Settles O34: every form is one of the shared moves, with the source that its rule names. -/
theorem moves : Obligations.Moves := by
  intro s hm fromMem
  have hfrom (sz : Size) (a : Addr) (dst : Operand) (p : Addr) : fromMem sz a dst { moveFrom sz a dst s with pc := p } := by
    cases sz
    · exact (move8_updates (by simpa using hm) _ dst).with_pc
    · exact (move16_updates (by simpa using hm) _ dst).with_pc
  refine ⟨fun sz src dst hwf => completes_of_retire rfl hwf (moveG_pc ..) (moveG_updates hm sz src dst).with_pc,
    fun v dst => completes_of_retire rfl rfl (moveImm_pc ..) (moveImm_updates hm v dst).with_pc,
    fun sz v dst => ?_,
    fun v d => completes_of_retire rfl rfl (move8_pc ..) (move8_updates hm v _).with_pc,
    fun d => completes_of_retire rfl rfl (move8_pc ..) (move8_updates hm 0 _).with_pc,
    fun h m => completes_of_retire rfl rfl (move8_pc ..) (move8_updates hm _ _).with_pc,
    fun h x => completes_of_retire rfl rfl (moveG_pc ..) (moveG_updates hm .b _ _).with_pc,
    fun a x => completes_of_retire rfl rfl (moveG_pc ..) (moveG_updates hm .b _ _).with_pc,
    fun a v => completes_of_retire rfl rfl (move16_pc ..) (move16_updates hm v _).with_pc,
    fun a v => completes_of_retire rfl rfl (move8_pc ..) (move8_updates hm v _).with_pc,
    fun sz d dst => completes_of_retire rfl rfl (moveFrom_pc ..) (hfrom sz _ dst _),
    fun sz a dst => completes_of_retire rfl rfl (moveFrom_pc ..) (hfrom sz _ dst _),
    fun sz d dst => completes_of_retire rfl rfl (moveFrom_pc ..) (hfrom sz _ dst _),
    fun sz dst => completes_of_retire rfl rfl (moveFrom_pc ..) (hfrom sz _ dst _)⟩
  cases sz
  · exact completes_of_retire rfl rfl (move8_pc ..) (move8_updates hm _ dst).with_pc
  · exact completes_of_retire rfl rfl (move16_pc ..) (move16_updates hm _ dst).with_pc

/-! ### MOV to the stack frame, STE, STZ, STNZ and STZX (R205, R231 to R237) -/

theorem exec_stz (v : Byte) (d : ShortDest) (s : State) :
    exec (.stz v d) s = retire (.stz v d) (if s.flg.z then writeDest8 s (ShortDest.operand d) v else s) := rfl

theorem exec_stnz (v : Byte) (d : ShortDest) (s : State) :
    exec (.stnz v d) s = retire (.stnz v d) (if s.flg.z then s else writeDest8 s (ShortDest.operand d) v) := rfl

theorem exec_stzx (v w : Byte) (d : ShortDest) (s : State) :
    exec (.stzx v w d) s = retire (.stzx v w d) (writeDest8 s (ShortDest.operand d) (if s.flg.z then v else w)) := rfl

/-- A form of STZ, STNZ or STZX that writes its destination. -/
theorem completes_of_writeDest8 {i : Instr} {s : State} {x : Byte} {dst : Operand} (hm : Memory.wf s.mem = true)
    (hexec : exec i s = retire i (writeDest8 s dst x)) (hwf : i.wellFormed = true) : Completes i s (Updates8 Copies x s · dst) :=
  completes_of_retire hexec hwf (writeDest8_pc ..) (writeDest8_copies hm rfl (fun _ => rfl) x dst).with_pc

/-- Settles O35: the stores to an address of their own, then STZ, STNZ and STZX on both values of Z. -/
theorem stores : Obligations.Stores := by
  intro s hm bytes flags ste
  have hsource (src : Operand) : Memory.wf (readSrc8 s src).2.mem = true ∧ Memory.wf (readSrc16 s src).2.mem = true := by
    simpa using hm
  have hste (sz : Size) (src : Operand) (a p : Addr) : ste sz src a { storeExtended sz src a s with pc := p } := by
    cases sz
    · refine ⟨((stored_writeByte (hsource src).1 _).setFlg _).with_pc, ?_⟩
      cases src <;> exact setSZ_eq_signZero ..
    · refine ⟨((stored_write16 (hsource src).2 _).setFlg _).with_pc, ?_⟩
      cases src <;> exact setSZ_eq_signZero ..
  refine ⟨fun sz src d => ?_, fun sz src a => ?_, fun sz src d => ?_, fun sz src => ?_, fun v w d => ?_⟩
  · refine completes_of_retire rfl rfl (moveToSp_pc ..) ?_
    cases sz
    · exact ⟨((stored_writeByte (hsource src).1 _).setFlg _).with_pc, setSZ_eq_signZero ..⟩
    · exact ⟨((stored_write16 (hsource src).2 _).setFlg _).with_pc, setSZ_eq_signZero ..⟩
  · exact completes_of_retire rfl rfl (storeExtended_pc ..) (hste sz src _ _)
  · exact completes_of_retire rfl rfl (storeExtended_pc ..) (hste sz src _ _)
  · exact completes_of_retire rfl rfl (storeExtended_pc ..) (hste sz src _ _)
  · refine ⟨fun hz => ⟨?_, ?_, ?_⟩, fun hz => ⟨?_, ?_, ?_⟩⟩
    · exact completes_of_writeDest8 hm (by simp [exec_stz, hz]) rfl
    · rw [exec_stnz, hz]
      exact retire_selectable _ s rfl
    · exact completes_of_writeDest8 hm (by simp [exec_stzx, hz]) rfl
    · exact completes_of_writeDest8 hm (by simp [exec_stnz, hz]) rfl
    · rw [exec_stz, hz]
      exact retire_selectable _ s rfl
    · exact completes_of_writeDest8 hm (by simp [exec_stzx, hz]) rfl

/-! ### XCHG, MOVDir and MOVA (R213 to R216, R238) -/

section
variable {s : State}

/-- The old value of the destination is in `r`, also where `r` is the destination. -/
theorem exchange_updates8 (hm : Memory.wf s.mem = true) (r : DReg) (dst : Operand) :
    Updates8 Copies (s.byte r) (readSrc8 s dst).2 (exchange .b r dst s) dst ∧ (exchange .b r dst s).byte r = (readSrc8 s dst).1 := by
  refine ⟨?_, setByte_byte ..⟩
  have hflg : (exchange .b r dst s).flg = (readSrc8 s dst).2.flg := by simp
  cases dst with
  | dreg q =>
    refine ⟨?_, hflg⟩
    by_cases hqr : q = r
    · subst hqr
      exact setByte_byte ..
    · exact (setByte_byte_ne _ r q _ hqr).trans (setByte_byte ..)
  | areg a => exact ⟨(setByte_areg ..).trans (setAreg_areg ..), hflg⟩
  | mem m =>
    have hstored := stored_writeByte (s := (readSrc8 s (.mem m)).2) (a := (readSrc8 s (.mem m)).2.ea m) (by simpa using hm) (s.byte r)
    exact ⟨s.byte r, ⟨rfl, hflg⟩, hstored.of_same_image (setByte_mem ..) (setByte_layout ..) (setByte_platformLog ..)⟩

theorem exchange_updates16 (hm : Memory.wf s.mem = true) (r : DReg) (dst : Operand) :
    Updates16 Copies (s.word r) (readSrc16 s dst).2 (exchange .w r dst s) dst ∧ (exchange .w r dst s).word r = (readSrc16 s dst).1 := by
  refine ⟨?_, setWord_word ..⟩
  have hflg : (exchange .w r dst s).flg = (readSrc16 s dst).2.flg := by simp
  cases dst with
  | dreg q =>
    refine ⟨?_, hflg⟩
    by_cases hqr : q = r
    · subst hqr
      exact setWord_word ..
    · exact (setWord_word_ne _ r q _ hqr).trans (setWord_word ..)
  | areg a => exact ⟨(setWord_areg ..).trans (setAreg_areg ..), hflg⟩
  | mem m =>
    have hstored := stored_write16 (s := (readSrc16 s (.mem m)).2) (a := (readSrc16 s (.mem m)).2.ea m) (by simpa using hm) (s.word r)
    exact ⟨s.word r, ⟨rfl, hflg⟩, hstored.of_same_image (setWord_mem ..) (setWord_layout ..) (setWord_platformLog ..)⟩

end

/-- The nibble that MOVDir moves and the one it keeps, as numbers (R214). -/
theorem mergeNibble_toNat (dir : Dir) (src dst : Byte) : (mergeNibble dir src dst).toNat = nibbles dir src dst := by
  have hsrc := src.isLt
  have hdst := dst.isLt
  cases dir <;>
    simp only [mergeNibble, nibbles, BitVec.toNat_append, BitVec.extractLsb'_toNat, Nat.shiftRight_eq_div_pow] <;>
    rw [← Nat.shiftLeft_add_eq_or_of_lt (by omega), Nat.shiftLeft_eq] <;> omega

theorem movesNibble_mergeNibble (dir : Dir) (f : Flg) (src dst : Byte) : MovesNibble dir 8 f dst src (mergeNibble dir src dst) f :=
  ⟨by rw [BitVec.setWidth_eq, BitVec.setWidth_eq]; exact mergeNibble_toNat dir src dst, rfl, rfl⟩

/-- MOVDir to a byte register or to memory, which is read once and written once (R215). -/
theorem movDir_updates {s : State} (hm : Memory.wf s.mem = true) (dir : Dir) (x : Byte) {dst : Operand} (hdst : dst.isAreg = false) :
    Updates8 (MovesNibble dir) x s (writeDest8 (readSrc8 s dst).2 dst (mergeNibble dir x (readSrc8 s dst).1)) dst := by
  cases dst with
  | dreg r =>
    simp only [Updates8, writeDest8, readSrc8, setByte_byte, setByte_flg]
    exact movesNibble_mergeNibble ..
  | areg a => cases hdst
  | mem m =>
    have hstored (v : Byte) : Stored (writeDest8 (readSrc8 s (.mem m)).2 (.mem m) v) (s.ea m) [v] := by
      rw [← readSrc8_ea s (.mem m) m]
      exact stored_writeByte (by simpa using hm) v
    refine ⟨_, ?_, hstored _⟩
    rw [writeDest8_flg, readSrc8_snd_flg]
    exact movesNibble_mergeNibble ..

/-- Settles O36: XCHG and MOVDir by their shared operations, MOVA by the effective address alone. -/
theorem exchangeNibbleAddress : Obligations.ExchangeNibbleAddress := by
  intro s hm
  refine ⟨fun r dst => ?_, fun r dst => ?_, fun dir src hwf => ?_, fun dir dst hwf => ?_, fun m r hwf => ?_, fun m a hwf => ?_⟩
  · obtain ⟨hdst, hr⟩ := exchange_updates8 hm r dst
    exact completes_of_retire rfl rfl (exchange_pc ..) ⟨hdst.with_pc, hr⟩
  · obtain ⟨hdst, hr⟩ := exchange_updates16 hm r dst
    exact completes_of_retire rfl rfl (exchange_pc ..) ⟨hdst.with_pc, hr⟩
  · refine completes_of_retire rfl hwf (by simp) ⟨?_, (setByte_flg ..).trans (readSrc8_snd_flg ..)⟩
    exact (congrArg BitVec.toNat (setByte_byte (readSrc8 s src).2 .r0lR0 _)).trans (mergeNibble_toNat ..)
  · refine completes_of_retire rfl hwf (by simp) (UpdatesFrom.with_pc ?_)
    simp only [Instr.wellFormed, Bool.and_eq_true, Bool.not_eq_true'] at hwf
    obtain ⟨hareg, -⟩ := hwf
    exact movDir_updates hm dir (s.byte .r0lR0) hareg
  · refine completes_of_retire rfl hwf (by simp) ⟨?_, setWord_platformLog .., setWord_mem ..⟩
    exact (congrArg BitVec.toNat (setWord_word ..)).trans (ea_toNat s m).symm
  · refine completes_of_retire rfl hwf (by simp) ⟨?_, setAreg_platformLog .., setAreg_mem ..⟩
    exact (congrArg BitVec.toNat (setAreg_areg ..)).trans (ea_toNat s m).symm

end Sys2Proof.Machine
end


section
/-! SUPPORT. The pushes and the pops (R217 to R219, R221 to R225, R554), and the codes that the spec writes out. -/

namespace Sys2Proof.Machine

/-! ### Pushes -/

/-- A push of a byte from `s`: SP one down, and the byte there (R70). -/
def PushedByte (s : State) (v : Byte) (t : State) : Prop := t.sp = s.sp - 1 ∧ Stored t (zext20 (s.sp - 1)) [v]

/-- A push of a word from `s`: SP two down, and the word there, low byte first (R70). -/
def PushedWord (s : State) (v : Word) (t : State) : Prop := t.sp = s.sp - 2 ∧ Stored t (zext20 (s.sp - 2)) (wordBytes v)

section
variable {s : State} {i : Instr}

theorem completes_of_push8 {u : State} {v : Byte} (hm : Memory.wf s.mem = true) (hexec : exec i s = retire i (push8 u v))
    (hwf : i.wellFormed = true) (hmem : u.mem = s.mem) (hpc : u.pc = s.pc) (hsp : u.sp = s.sp) : Completes i s (PushedByte s v) := by
  refine completes_of_retire hexec hwf ((push8_pc u v).trans hpc) ?_
  rw [PushedByte, ← hsp]
  exact ⟨push8_sp u v, stored_push8 (hmem ▸ hm) v⟩

theorem completes_of_push16 {u : State} {v : Word} (hm : Memory.wf s.mem = true) (hexec : exec i s = retire i (push16 u v))
    (hwf : i.wellFormed = true) (hmem : u.mem = s.mem) (hpc : u.pc = s.pc) (hsp : u.sp = s.sp) : Completes i s (PushedWord s v) := by
  refine completes_of_retire hexec hwf ((push16_pc u v).trans hpc) ?_
  rw [PushedWord, ← hsp]
  exact ⟨push16_sp u v, stored_push16 (hmem ▸ hm) v⟩

/-- A word that a law of plain arithmetic names. -/
theorem completes_of_push16_value {v : Word} {n : Nat} (hm : Memory.wf s.mem = true) (hexec : exec i s = retire i (push16 s v))
    (hwf : i.wellFormed = true) (hv : v.toNat = n) : Completes i s fun t => ∃ w : Word, w.toNat = n ∧ PushedWord s w t := by
  obtain ⟨t, hnext, hpc, hpushed⟩ := completes_of_push16 hm hexec hwf rfl rfl rfl
  exact ⟨t, hnext, hpc, v, hv, hpushed⟩

end

/-! ### The control registers as numbers (R530) -/

theorem byteOfBits_toNat (b7 b6 b5 b4 b3 b2 b1 b0 : Bool) :
    (byteOfBits b7 b6 b5 b4 b3 b2 b1 b0).toNat =
      b0.toNat + 2 * b1.toNat + 4 * b2.toNat + 8 * b3.toNat + 16 * b4.toNat + 32 * b5.toNat + 64 * b6.toNat + 128 * b7.toNat := by
  revert b7 b6 b5 b4 b3 b2 b1 b0
  decide

theorem toWord_toNat (f : Flg) : (Flg.toWord f).toNat = f.low.toNat + 4096 * f.ipl.toNat := by
  have hipl := f.ipl.isLt
  have hlow := f.low.isLt
  have happend : (Flg.toWord f).toNat = (((0#1 ++ f.ipl : BitVec 4) ++ 0#4 : BitVec 8) ++ f.low).toNat := rfl
  rw [happend, BitVec.toNat_append, ← Nat.shiftLeft_add_eq_or_of_lt hlow, Nat.shiftLeft_eq, BitVec.toNat_append, BitVec.toNat_append]
  simp [Nat.shiftLeft_eq]
  omega

theorem creg_toNat (s : State) (c : CReg) : (s.creg c).toNat = cregValue s c := by
  have hintb := s.intb.isLt
  cases c with
  | intbl => simp [State.creg, cregValue]
  | intbh =>
    simp only [State.creg, cregValue, BitVec.toNat_setWidth, BitVec.extractLsb'_toNat, Nat.shiftRight_eq_div_pow]
    omega
  | flg => rw [State.creg, toWord_toNat, Flg.low, byteOfBits_toNat]; rfl
  | sp =>
    simp only [State.creg, cregValue, State.sp]
    split <;> rfl
  | isp | sb | fb => rfl

/-! ### Pops -/

section
variable {s : State}

theorem setSp_ea (v : Word) (m : Mem) : (s.setSp v).ea m = s.ea m := by
  cases m <;> simp [State.ea, State.ea16, State.areg, State.fb]

/-- The destination takes what lay on the stack; an address in it is computed after SP has moved, which makes no difference (R217). -/
theorem popOperand_copies8 (hm : Memory.wf s.mem = true) (dst : Operand) :
    Updates8 Copies (readByte s (zext20 s.sp)).1 (readByte s (zext20 s.sp)).2 (popOperand .b dst s) dst :=
  writeDest8_copies (by simpa using hm) (by simp) (fun m => setSp_ea _ m) _ dst

theorem popOperand_copies16 (hm : Memory.wf s.mem = true) (dst : Operand) :
    Updates16 Copies (read16 s (zext20 s.sp)).1 (read16 s (zext20 s.sp)).2 (popOperand .w dst s) dst :=
  writeDest16_copies (by simpa using hm) (by simp) (fun m => setSp_ea _ m) _ dst

theorem writeDest8_sp (x : Byte) (dst : Operand) : (writeDest8 s dst x).sp = s.sp := by simp [State.sp]

theorem writeDest16_sp (x : Word) (dst : Operand) : (writeDest16 s dst x).sp = s.sp := by simp [State.sp]

theorem popOperand_sp8 (dst : Operand) : (popOperand .b dst s).sp = s.sp + 1 := (writeDest8_sp _ dst).trans (pop8_snd_sp s)

theorem popOperand_sp16 (dst : Operand) : (popOperand .w dst s).sp = s.sp + 2 := (writeDest16_sp _ dst).trans (pop16_snd_sp s)

end

/-- Settles O37: every form is a push of its source's value, or a pop into its destination. -/
theorem pushesAndPops : Obligations.PushesAndPops := by
  intro s hm b w byteAt wordAt
  refine ⟨fun src => ?_, fun src => ?_, fun v => ?_, fun v => ?_, fun h => ?_, fun a => ?_, fun m hwf => ?_, fun c => ?_,
    fun dst hwf => ?_, fun dst => ?_, fun h => ?_, fun a => ?_⟩
  · exact completes_of_push8 hm rfl rfl (readSrc8_snd_mem s src) (readSrc8_snd_pc s src) (readSrc8_sp s src)
  · exact completes_of_push16 hm rfl rfl (readSrc16_snd_mem s src) (readSrc16_snd_pc s src) (readSrc16_sp s src)
  · exact completes_of_push8 hm rfl rfl rfl rfl rfl
  · exact completes_of_push16 hm rfl rfl rfl rfl rfl
  · exact completes_of_push8 hm rfl rfl rfl rfl rfl
  · exact completes_of_push16 hm rfl rfl rfl rfl rfl
  · exact completes_of_push16_value hm rfl hwf (ea_toNat s m).symm
  · exact completes_of_push16_value hm rfl rfl (creg_toNat s c)
  · exact completes_of_retire rfl hwf (popOperand_pc ..) ⟨popOperand_sp8 dst, (popOperand_copies8 hm dst).with_pc⟩
  · exact completes_of_retire rfl rfl (popOperand_pc ..) ⟨popOperand_sp16 dst, (popOperand_copies16 hm dst).with_pc⟩
  · exact completes_of_retire rfl rfl (popOperand_pc ..) ⟨popOperand_sp8 _, setByte_byte .., popOperand_flg ..⟩
  · exact completes_of_retire rfl rfl (popOperand_pc ..) ⟨popOperand_sp16 _, setAreg_areg .., popOperand_flg ..⟩

/-! ### Codes written out -/

theorem decode_of_encode_eq {i : Instr} {bs : List Byte} (hcode : encode i = bs) (hwf : i.wellFormed = true)
    (hc : Instr.canonical i = true) : decode bs = .ok (i, []) := by
  rw [← hcode, ← List.append_nil (encode i)]
  exact decodeInvertsEncode i [] hwf hc

/-- Settles O4: each of the codes is what the encoder writes for its instruction, and the decoder reads that back. -/
theorem printedCodesDecode : Obligations.PrintedCodesDecode := by
  refine ⟨?_, ?_, ?_, ?_, ?_, ?_, ?_, ?_, ?_, ?_, ?_, ?_⟩ <;> exact decode_of_encode_eq rfl rfl rfl

end Sys2Proof.Machine
end


section
/-! SUPPORT. The bit manipulation instructions (41_bit.md): what the shared read, test and write of a bit leave in the designated bit and in FLG,
and from it the statements about them. -/

namespace Sys2Proof.Machine

/-! ### One bit of a bit vector -/

theorem getLsbD_putBit {n : Nat} (x : BitVec n) (k : Nat) (v : Bool) {j : Nat} (hj : j < n) :
    (putBit x k v).getLsbD j = if j = k then v else x.getLsbD j := by
  rcases eq_or_ne j k with rfl | hjk
  · cases v <;> simp [putBit, hj]
  · cases v <;> simp [putBit, hj, hjk]

/-- Bit `k` replaced by `f` of itself, as R260 writes a bit. -/
theorem getLsbD_putBit_apply {n : Nat} (x : BitVec n) (k : Nat) (f : Bool → Bool) {j : Nat} (hj : j < n) :
    (putBit x k (f (x.getLsbD k))).getLsbD j = if j = k then f (x.getLsbD j) else x.getLsbD j := by
  rw [getLsbD_putBit x k _ hj]
  split
  · next hjk => rw [hjk]
  · rfl

/-! ### Reading a bit (R260) -/

section
variable (s : State) (p : BitPlace)

@[simp] theorem readBit_fst : (readBit s p).1 = bitValue s p := by
  cases p <;> exact Nat.testBit_eq_decide_div_mod_eq

@[simp] theorem readBit_snd_pc : (readBit s p).2.pc = s.pc := by
  cases p <;> simp [readBit]

theorem combineBit_flg (f : Bool → Bool → Bool) : (combineBit f p s).flg = { s.flg with c := f (bitValue s p) s.flg.c } := by
  simp [combineBit]

theorem testBit_flg (c : Bool → Bool) : (testBit c p s).flg = { s.flg with z := !bitValue s p, c := c (bitValue s p) } := by
  simp [testBit]

end

section
variable {s : State} {i : Instr} {p : BitPlace}

/-- An instruction that combines the designated bit with C. -/
theorem completes_of_combineBit (f : Bool → Bool → Bool) (hexec : exec i s = retire i (combineBit f p s)) (hwf : i.wellFormed = true) :
    Completes i s fun t => t.flg = { s.flg with c := f (bitValue s p) s.flg.c } :=
  completes_of_retire hexec hwf (readBit_snd_pc s p) (combineBit_flg s p f)

/-- An instruction that tests the designated bit. -/
theorem completes_of_testBit (c : Bool → Bool) (hexec : exec i s = retire i (testBit c p s)) (hwf : i.wellFormed = true) :
    Completes i s fun t => t.flg = { s.flg with z := !bitValue s p, c := c (bitValue s p) } :=
  completes_of_retire hexec hwf (readBit_snd_pc s p) (testBit_flg s p c)

end

/-- Settles O40: six forms combine the bit with C and three test it; BNXOR is written as the complement of BXOR in the model. -/
theorem bitTests : Obligations.BitTests := by
  intro s
  refine ⟨fun x => ⟨?_, ?_, ?_, ?_, ?_, ?_, ?_, ?_⟩, fun k d => ?_⟩
  · exact completes_of_combineBit (fun b c => b && c) rfl rfl
  · exact completes_of_combineBit (fun b c => !b && c) rfl rfl
  · exact completes_of_combineBit (fun b c => b || c) rfl rfl
  · exact completes_of_combineBit (fun b c => !b || c) rfl rfl
  · exact completes_of_combineBit (fun b c => b != c) rfl rfl
  · rw [Bool.not_xor]
    exact completes_of_combineBit (fun b c => !b != c) rfl rfl
  · exact completes_of_testBit id rfl rfl
  · exact completes_of_testBit not rfl rfl
  · exact completes_of_testBit id rfl rfl

/-! ### Writing a bit (R260) -/

section
variable {f : Bool → Bool} {s t : State} {p : BitPlace}

theorem PutsBit.with_pc (h : PutsBit f s t p) (a : Addr) : PutsBit f s { t with pc := a } p := by
  cases p <;> exact h

/-- Flags other than B do not matter to the bit that has been written. -/
theorem PutsBit.setFlg (h : PutsBit f s t p) {g : Flg} (hb : g.b = t.flg.b) : PutsBit f s (t.setFlg g) p := by
  cases p with
  | dreg r k => simpa only [PutsBit, setFlg_word t g hb] using h
  | areg a k => simpa only [PutsBit, setFlg_areg t g hb] using h
  | mem a k =>
    obtain ⟨v, hstored, hbits⟩ := h
    exact ⟨v, hstored.setFlg g, hbits⟩

@[simp] theorem updateBit_pc (f : Bool → Bool) (p : BitPlace) (s : State) : (updateBit f p s).pc = s.pc := by
  cases p <;> simp [updateBit]

theorem updateBit_putsBit (hm : Memory.wf s.mem = true) (f : Bool → Bool) (p : BitPlace) : PutsBit f s (updateBit f p s) p := by
  cases p with
  | dreg r k =>
    intro j hj
    rw [updateBit, setWord_word, getLsbD_putBit_apply _ _ f hj]
  | areg a k =>
    intro j hj
    rw [updateBit, setAreg_areg, getLsbD_putBit_apply _ _ f hj]
  | mem a k => exact ⟨_, stored_writeByte (by simpa using hm) _, fun j hj => getLsbD_putBit_apply _ _ f hj⟩

theorem testAndPut_putsBit (hm : Memory.wf s.mem = true) (v : Bool) (p : BitPlace) : PutsBit (fun _ => v) s (testAndPut v p s) p :=
  (updateBit_putsBit hm _ p).setFlg (by simp)

theorem testAndPut_flg (v : Bool) (p : BitPlace) (s : State) :
    (testAndPut v p s).flg = { s.flg with z := !bitValue s p, c := bitValue s p } := by
  simp [testAndPut]

variable {i : Instr}

/-- An instruction that writes the designated bit. -/
theorem completes_of_updateBit (hm : Memory.wf s.mem = true) (hexec : exec i s = retire i (updateBit f p s)) (hwf : i.wellFormed = true) :
    Completes i s fun t => PutsBit f s t p ∧ t.flg = s.flg :=
  completes_of_retire hexec hwf (updateBit_pc f p s) ⟨(updateBit_putsBit hm f p).with_pc _, updateBit_flg f p s⟩

/-- An instruction that tests the designated bit and then writes it. -/
theorem completes_of_testAndPut {v : Bool} (hm : Memory.wf s.mem = true) (hexec : exec i s = retire i (testAndPut v p s))
    (hwf : i.wellFormed = true) :
    Completes i s fun t => PutsBit (fun _ => v) s t p ∧ t.flg = { s.flg with z := !bitValue s p, c := bitValue s p } :=
  completes_of_retire hexec hwf (updateBit_pc (fun _ => v) p s) ⟨(testAndPut_putsBit hm v p).with_pc _, testAndPut_flg v p s⟩

end

/-- Settles O41: every form but BMCnd C is one update of the designated bit, with or without the test before it. -/
theorem bitWrites : Obligations.BitWrites := by
  intro s hm
  refine ⟨fun x => ⟨?_, ?_, ?_, ?_, ?_, fun c => ?_⟩, fun k d => ⟨?_, ?_, ?_⟩, fun c => ?_⟩
  · exact completes_of_updateBit hm rfl rfl
  · exact completes_of_updateBit hm rfl rfl
  · exact completes_of_updateBit hm rfl rfl
  · exact completes_of_testAndPut hm rfl rfl
  · exact completes_of_testAndPut hm rfl rfl
  · exact completes_of_updateBit hm rfl rfl
  · exact completes_of_updateBit hm rfl rfl
  · exact completes_of_updateBit hm rfl rfl
  · exact completes_of_updateBit hm rfl rfl
  · exact completes_of_retire rfl rfl rfl rfl

end Sys2Proof.Machine
end


section
/-! SUPPORT. What an operation on a destination leaves there and in FLG (R118, R128): an operation that obeys a law on bit vectors obeys it on every
destination. -/

namespace Sys2Proof.Machine

/-! ### Values that are drawn (R9) -/

section
variable (s : State) (a : Addr)

theorem afterRead_platformLog :
    (s.afterRead a).platformLog = if s.layout.isSfr a then .read a :: s.platformLog else s.platformLog := by
  unfold State.afterRead
  split
  · split <;> simp
  · rfl

/-- What a data read answers depends on memory, the layout and the platform's log only (R60, R71, R72). -/
theorem readByte_fst_congr {s u : State} (hmem : u.mem = s.mem) (hlayout : u.layout = s.layout) (hlog : u.platformLog = s.platformLog)
    (a : Addr) : (readByte u a).1 = (readByte s a).1 := by
  simp only [readByte, State.peek, hmem, hlayout, hlog]

@[simp] theorem draw_readByte_fst : (readByte (draw s).2 a).1 = (readByte s a).1 := rfl

@[simp] theorem draw_read16_fst : (read16 (draw s).2 a).1 = (read16 s a).1 := by
  have hlog : ((draw s).2.afterRead a).platformLog = (s.afterRead a).platformLog := by
    rw [afterRead_platformLog, afterRead_platformLog, draw_layout, draw_platformLog]
  exact congrArg (· ++ (readByte s a).1) (readByte_fst_congr (by simp) (by simp) hlog (a + 1))

@[simp] theorem draw_ea (m : Mem) : (draw s).2.ea m = s.ea m := by
  cases m <;> rfl

/-- A destination is read alike before and after a free value has been drawn. -/
theorem draw_updatesOne {s t : State} {law : Law} {sz : Size} {dst : Operand} :
    UpdatesOne law sz dst (draw s).2 t ↔ UpdatesOne law sz dst s t := by
  cases sz with
  | b => cases dst <;> simp only [UpdatesOne, UpdatesImm, quick, Updates8, draw_ea, draw_readByte_fst] <;> rfl
  | w => cases dst <;> simp only [UpdatesOne, UpdatesImm, quick, Updates16, draw_ea, draw_read16_fst] <;> rfl

end

/-! ### An operation and its law -/

/-- At every width of at least `w` bits the operation's result and FLG are as the law says. -/
def Binary.Obeys (op : Binary) (law : Law) (w : Nat) : Prop :=
  ∀ (n : Nat), w ≤ n → ∀ (f : Flg) (d x : BitVec n), law n f d x (op n f d x).1 (op n f d x).2

theorem Binary.Obeys.mono {op : Binary} {law : Law} {v w : Nat} (h : Binary.Obeys op law v) (hvw : v ≤ w) : Binary.Obeys op law w :=
  fun n hn => h n (hvw.trans hn)

theorem Size.one_le_bits (sz : Size) : 1 ≤ sz.bits := by
  cases sz <;> decide

section
variable {op : Binary} {law : Law} {l : List Flag} {s : State} {sz : Size} {dst : Operand}
  (hm : Memory.wf s.mem = true) (hkeeps : Binary.Keeps l op) (hb : .b ∉ l)
include hm hkeeps hb

/-- The destination register is still the selected one after the flags have been set, since B is none of them (R26). -/
theorem update8_updates (hop : Binary.Obeys op law 8) (x : Byte) (dst : Operand) : Updates8 law x s (update8 op x dst s) dst := by
  have hbank (n : Nat) (d x : BitVec n) : (op n s.flg d x).2.b = s.flg.b := (hkeeps n s.flg d x).flags .b hb
  cases dst with
  | dreg r =>
    rw [Updates8, update8, setFlg_byte _ _ (by rw [hbank, setByte_flg]), setByte_byte]
    exact hop 8 (by decide) ..
  | areg a =>
    rw [Updates8, update8, setFlg_areg _ _ (by rw [hbank, setAreg_flg]), setAreg_areg]
    exact hop 16 (by decide) ..
  | mem m => exact ⟨_, hop 8 (by decide) .., (stored_writeByte (by simpa using hm) _).setFlg _⟩

theorem update16_updates (hop : Binary.Obeys op law 16) (x : Word) (dst : Operand) : Updates16 law x s (update16 op x dst s) dst := by
  have hbank (n : Nat) (d x : BitVec n) : (op n s.flg d x).2.b = s.flg.b := (hkeeps n s.flg d x).flags .b hb
  cases dst with
  | dreg r =>
    rw [Updates16, update16, setFlg_word _ _ (by rw [hbank, setWord_flg]), setWord_word]
    exact hop 16 (by decide) ..
  | areg a =>
    rw [Updates16, update16, setFlg_areg _ _ (by rw [hbank, setAreg_flg]), setAreg_areg]
    exact hop 16 (by decide) ..
  | mem m => exact ⟨_, hop 16 (by decide) .., (stored_write16 (by simpa using hm) _).setFlg _⟩

theorem updateOne_updates (hop : Binary.Obeys op law sz.bits) (dst : Operand) : UpdatesOne law sz dst s (updateOne op sz dst s) := by
  cases sz with
  | b => exact update8_updates hm hkeeps hb hop 0 dst
  | w => exact update16_updates hm hkeeps hb hop 0 dst

end

@[simp] theorem updateOne_pc (op : Binary) (sz : Size) (dst : Operand) (s : State) : (updateOne op sz dst s).pc = s.pc := by
  cases sz <;> simp [updateOne]

section
variable {op : Binary} {law : Law} {l : List Flag} {s : State} {sz : Size} {dst : Operand} {i : Instr}

/-- A one-operand instruction. -/
theorem completes_of_updateOne (hm : Memory.wf s.mem = true) (hkeeps : Binary.Keeps l op) (hb : .b ∉ l) (hop : Binary.Obeys op law sz.bits)
    (hexec : exec i s = retire i (updateOne op sz dst s)) (hwf : i.wellFormed = true) : Completes i s (UpdatesOne law sz dst s) :=
  completes_of_retire hexec hwf (updateOne_pc ..) (updateOne_updates hm hkeeps hb hop dst).with_pc

end

end Sys2Proof.Machine
end


section
/-! SUPPORT. The shift and rotate instructions (42_shift.md): one step at a time as the model shifts, the closed form that the rules state,
and from it the statements about them. -/

namespace Sys2Proof.Machine

/-! ### Rotation through C (R301, R302) -/

theorem opRolc_obeys : Binary.Obeys opRolc RotatesCarryLeft 1 := by
  intro n hn f d x
  refine ⟨?_, ?_⟩
  · have hc : f.c.toNat < 2 ^ 1 := Bool.toNat_lt f.c
    have hsum : (d.toNat <<< 1 ||| f.c.toNat) = 2 * d.toNat + f.c.toNat := by
      rw [← Nat.shiftLeft_add_eq_or_of_lt hc, Nat.shiftLeft_eq, pow_one, Nat.mul_comm]
    simp only [opRolc, BitVec.toNat_or, BitVec.toNat_shiftLeft, BitVec.toNat_setWidth, BitVec.toNat_ofBool, ← Nat.or_mod_two_pow, hsum]
  · simp only [opRolc, setSZ_eq_signZero, BitVec.msb_eq_decide]

theorem opRorc_obeys : Binary.Obeys opRorc RotatesCarryRight 1 := by
  intro n hn f d x
  refine ⟨?_, ?_⟩
  · have hpow : 2 ^ (n - 1) * 2 = 2 ^ n := Nat.two_pow_pred_mul_two hn
    have hd : d.toNat / 2 < 2 ^ (n - 1) := by
      have := d.isLt
      omega
    have hc : (BitVec.setWidth n (BitVec.ofBool f.c) <<< (n - 1)).toNat = 2 ^ (n - 1) * f.c.toNat := by
      cases f.c
      · simp
      · have hone : 1 < 2 ^ n := Nat.one_lt_two_pow (by omega)
        have hlt : 2 ^ (n - 1) < 2 ^ n := by omega
        simp [Nat.shiftLeft_eq, Nat.mod_eq_of_lt hone, Nat.mod_eq_of_lt hlt]
    rw [opRorc, BitVec.toNat_or, hc, BitVec.toNat_ushiftRight, Nat.shiftRight_eq_div_pow, pow_one, Nat.or_comm,
      ← Nat.two_pow_add_eq_or_of_lt hd, Nat.add_comm]
  · simp only [opRorc, setSZ_eq_signZero, BitVec.getLsbD, Nat.testBit_zero]

/-! ### One step (R300) -/

section
variable {n : Nat} (v : BitVec n)

/-- SHL and SHA bring in 0 on the left (R305, R309). -/
theorem shiftStep_left_eq {k : ShiftKind} (hk : k ≠ .rot) : (shiftStep k false v).1 = v <<< 1 := by
  have hin : k.leftIn v.msb = false := by
    cases k with
    | rot => exact absurd rfl hk
    | sha | shl => rfl
  refine BitVec.eq_of_getLsbD_eq fun j hj => ?_
  simp only [shiftStep, Bool.false_eq_true, if_false, getLsbD_putBit _ _ _ hj, hin]
  split
  · next hj0 => simp [hj0]
  · rfl

theorem shiftStep_shl_right : (shiftStep .shl true v).1 = v >>> 1 := by
  refine BitVec.eq_of_getLsbD_eq fun j hj => ?_
  simp only [shiftStep, if_true, getLsbD_putBit _ _ _ hj, ShiftKind.rightIn]
  split
  · next hjn => simp [hjn, show 1 + (n - 1) = n by omega]
  · rfl

theorem shiftStep_sha_right : (shiftStep .sha true v).1 = v.sshiftRight 1 := by
  refine BitVec.eq_of_getLsbD_eq fun j hj => ?_
  simp only [shiftStep, if_true, getLsbD_putBit _ _ _ hj, ShiftKind.rightIn]
  split
  · next hjn =>
    rw [BitVec.getLsbD_sshiftRight, if_neg (by omega)]
    simp [hj]
  · rw [BitVec.getLsbD_ushiftRight, BitVec.getLsbD_sshiftRight, if_pos (by omega)]
    simp [hj]

/-- A rotation to the left moves every bit up one place, around the top. -/
theorem shiftStep_rot_left_getLsbD {j : Nat} (hj : j < n) : (shiftStep .rot false v).1.getLsbD ((j + 1) % n) = v.getLsbD j := by
  simp only [shiftStep, Bool.false_eq_true, if_false, ShiftKind.leftIn]
  rw [getLsbD_putBit _ _ _ (Nat.mod_lt _ (by omega))]
  rcases Nat.lt_or_ge (j + 1) n with hlt | hge
  · simp only [Nat.mod_eq_of_lt hlt, Nat.add_one_ne_zero, if_false, BitVec.getLsbD_shiftLeft]
    simp [hlt]
  · obtain rfl : j = n - 1 := by omega
    simp [show n - 1 + 1 = n by omega, BitVec.msb_eq_getLsbD_last]

/-- A rotation to the right moves every bit down one place, around the bottom. -/
theorem shiftStep_rot_right_getLsbD {j : Nat} (hj : j < n) : (shiftStep .rot true v).1.getLsbD j = v.getLsbD ((j + 1) % n) := by
  simp only [shiftStep, if_true, ShiftKind.rightIn, getLsbD_putBit _ _ _ hj]
  split
  · next hjn => simp [hjn, show n - 1 + 1 = n by omega]
  · simp [Nat.mod_eq_of_lt (show j + 1 < n by omega), Nat.add_comm]

end

/-! ### Several steps -/

section
variable {n : Nat} (k : ShiftKind) (right : Bool) (m : Nat) (x : BitVec n × Bool)

/-- The last of several steps. -/
theorem shiftSteps_succ : shiftSteps k right (m + 1) x = shiftStep k right (shiftSteps k right m x).1 := by
  induction m generalizing x with
  | zero => rfl
  | succ m ih => exact ih (shiftStep k right x.1)

theorem shiftSteps_left_fst {k : ShiftKind} (hk : k ≠ .rot) : (shiftSteps k false m x).1 = x.1 <<< m := by
  induction m with
  | zero => exact (BitVec.shiftLeft_zero x.1).symm
  | succ m ih => rw [shiftSteps_succ, shiftStep_left_eq _ hk, ih, BitVec.shiftLeft_add]

theorem shiftSteps_shl_right_fst : (shiftSteps .shl true m x).1 = x.1 >>> m := by
  induction m with
  | zero => exact (BitVec.ushiftRight_zero x.1).symm
  | succ m ih => rw [shiftSteps_succ, shiftStep_shl_right, ih, BitVec.shiftRight_add]

theorem shiftSteps_sha_right_fst : (shiftSteps .sha true m x).1 = x.1.sshiftRight m := by
  induction m with
  | zero => exact BitVec.sshiftRight_zero.symm
  | succ m ih => rw [shiftSteps_succ, shiftStep_sha_right, ih, BitVec.sshiftRight_add]

theorem shiftSteps_rot_left_getLsbD {j : Nat} (hj : j < n) : (shiftSteps .rot false m x).1.getLsbD ((j + m) % n) = x.1.getLsbD j := by
  induction m with
  | zero => rw [Nat.add_zero, Nat.mod_eq_of_lt hj]; rfl
  | succ m ih =>
    rw [shiftSteps_succ, ← ih, ← shiftStep_rot_left_getLsbD (shiftSteps .rot false m x).1 (Nat.mod_lt (j + m) (by omega)), Nat.mod_add_mod,
      Nat.add_assoc]

theorem shiftSteps_rot_right_getLsbD {j : Nat} (hj : j < n) : (shiftSteps .rot true m x).1.getLsbD j = x.1.getLsbD ((j + m) % n) := by
  induction m generalizing j with
  | zero => rw [Nat.add_zero, Nat.mod_eq_of_lt hj]; rfl
  | succ m ih =>
    rw [shiftSteps_succ, shiftStep_rot_right_getLsbD _ hj, ih (Nat.mod_lt _ (by omega)), Nat.mod_add_mod, Nat.add_assoc, Nat.add_comm 1]

end

/-- The bit that a rotation's step moves out is the one that it moves in (R303). -/
theorem shiftStep_rot_snd {n : Nat} (right : Bool) (hn : 0 < n) (v : BitVec n) :
    (shiftStep .rot right v).2 = (shiftStep .rot right v).1.getLsbD (if right then n - 1 else 0) := by
  cases right
  · simp [shiftStep, getLsbD_putBit _ _ _ hn, ShiftKind.leftIn]
  · simp [shiftStep, getLsbD_putBit _ _ _ (Nat.sub_one_lt hn.ne'), ShiftKind.rightIn]

/-- The bit that the last of several shifts to the left moves out (R305, R309). -/
theorem shiftSteps_left_snd {k : ShiftKind} (hk : k ≠ .rot) {n m : Nat} (hmn : m < n) (x : BitVec n × Bool) :
    (shiftSteps k false (m + 1) x).2 = x.1.getLsbD (n - (m + 1)) := by
  have hout : (shiftSteps k false (m + 1) x).2 = (x.1 <<< m).msb := by
    rw [shiftSteps_succ, ← shiftSteps_left_fst m x hk]
    rfl
  rw [hout, BitVec.msb_shiftLeft, BitVec.getMsbD_eq_getLsbD]
  simp [hmn, show n - 1 - m = n - (m + 1) by omega]

/-- The bit that the last of several shifts to the right moves out (R305, R309). -/
theorem shiftSteps_right_snd (k : ShiftKind) {n m : Nat} (x : BitVec n × Bool) :
    (shiftSteps k true (m + 1) x).2 = (shiftSteps k true m x).1.getLsbD 0 := by
  rw [shiftSteps_succ]
  rfl

/-- The closed form of a shift by 1 to `n` places, and the bit that its last step moves out (R300, R303, R305, R309). -/
theorem shiftResult_shiftSteps (k : ShiftKind) (right : Bool) {n m : Nat} (hm : m ≠ 0) (hmn : m ≤ n) (d : BitVec n) (c : Bool) :
    ShiftResult k right m d (shiftSteps k right m (d, c)).1 (shiftSteps k right m (d, c)).2 := by
  obtain ⟨m, rfl⟩ := Nat.exists_eq_succ_of_ne_zero hm
  have hleft {k : ShiftKind} (hk : k ≠ .rot) : (shiftSteps k false (m + 1) (d, c)).1.toNat = d.toNat * 2 ^ (m + 1) % 2 ^ n := by
    rw [shiftSteps_left_fst _ _ hk, BitVec.toNat_shiftLeft, Nat.shiftLeft_eq]
  have hrot (right : Bool) : (shiftSteps .rot right (m + 1) (d, c)).2 =
      (shiftSteps .rot right (m + 1) (d, c)).1.getLsbD (if right then n - 1 else 0) := by
    rw [shiftSteps_succ]
    exact shiftStep_rot_snd right (by omega) _
  match k, right with
  | .rot, false => exact ⟨fun j hj => shiftSteps_rot_left_getLsbD _ _ hj, hrot false⟩
  | .rot, true => exact ⟨fun j hj => shiftSteps_rot_right_getLsbD _ _ hj, hrot true⟩
  | .shl, false => exact ⟨hleft (by decide), shiftSteps_left_snd (by decide) hmn _⟩
  | .sha, false => exact ⟨hleft (by decide), shiftSteps_left_snd (by decide) hmn _⟩
  | .shl, true =>
    refine ⟨?_, ?_⟩
    · rw [shiftSteps_shl_right_fst, BitVec.toNat_ushiftRight, Nat.shiftRight_eq_div_pow]
    · rw [shiftSteps_right_snd, shiftSteps_shl_right_fst, BitVec.getLsbD_ushiftRight]
      rfl
  | .sha, true =>
    refine ⟨?_, ?_⟩
    · rw [shiftSteps_sha_right_fst, BitVec.toInt_sshiftRight, Int.shiftRight_eq_div_pow]
      rfl
    · rw [shiftSteps_right_snd, shiftSteps_sha_right_fst, BitVec.getLsbD_sshiftRight]
      simp [Nat.lt_of_succ_le hmn, show n ≠ 0 by omega]

/-! ### ROT, SHL and SHA (R303 to R306, R309, R310) -/

theorem opShift_obeys (k : ShiftKind) (right : Bool) {m w : Nat} (hm : m ≠ 0) (hmw : m ≤ w) :
    Binary.Obeys (opShift k right m) (Shifts k right m) w := by
  intro n hn f d x
  refine ⟨_, shiftResult_shiftSteps k right hm (hmw.trans hn) d f.c, ?_⟩
  cases k with
  | rot | shl => simp [opShift, setSZ_eq_signZero, signZero]
  | sha => simp [opShift, setSZ_eq_signZero, BitVec.msb_eq_getLsbD_last, bne_comm]

theorem opShiftFree_obeys (k : ShiftKind) (v w : Long) (n : Nat) : Binary.Obeys (opShiftFree k v w) (ShiftsFreely k) n := by
  intro n hn f d x
  cases k <;> rfl

/-- No shift has B among its flags. -/
theorem ShiftKind.b_notMem_flags (k : ShiftKind) : .b ∉ k.flags := by
  cases k <;> decide

section
variable {k : ShiftKind} {sz : Size} {dst : Operand} {s : State} {i : Instr}

theorem shiftR1H_inRange (h0 : (s.byte .r1hR3).toInt ≠ 0) (h : (s.byte .r1hR3).toInt.natAbs ≤ sz.bits) :
    shiftR1H k sz dst s = updateOne (opShift k (decide ((s.byte .r1hR3).toInt < 0)) (s.byte .r1hR3).toInt.natAbs) sz dst s :=
  (if_neg h0).trans (if_pos h)

theorem shiftR1H_outOfRange (h : sz.bits < (s.byte .r1hR3).toInt.natAbs) :
    shiftR1H k sz dst s = updateOne (opShiftFree k (draw s).1 (draw (draw s).2).1) sz dst (draw (draw s).2).2 :=
  (if_neg (by omega)).trans (if_neg (by omega))

theorem completes_of_shift {right : Bool} {m : Nat} (hmem : Memory.wf s.mem = true) (hm : m ≠ 0) (hmn : m ≤ sz.bits)
    (hexec : exec i s = retire i (updateOne (opShift k right m) sz dst s)) (hwf : i.wellFormed = true) :
    Completes i s (UpdatesOne (Shifts k right m) sz dst s) :=
  completes_of_updateOne hmem (opShift_keeps k right m) k.b_notMem_flags (opShift_obeys k right hm hmn) hexec hwf

variable (hexec : exec i s = retire i (shiftR1H k sz dst s)) (hwf : i.wellFormed = true)
include hexec hwf

theorem exec_shiftR1H_zero (h0 : (s.byte .r1hR3).toInt = 0) : exec i s = .next { s with pc := s.nextPc i } := by
  rw [hexec, show shiftR1H k sz dst s = s from if_pos h0]
  exact retire_selectable i s hwf

theorem completes_of_shiftR1H_inRange (hmem : Memory.wf s.mem = true) (h0 : (s.byte .r1hR3).toInt ≠ 0)
    (h : (s.byte .r1hR3).toInt.natAbs ≤ sz.bits) :
    Completes i s (UpdatesOne (Shifts k (decide ((s.byte .r1hR3).toInt < 0)) (s.byte .r1hR3).toInt.natAbs) sz dst s) :=
  completes_of_shift hmem (Int.natAbs_ne_zero.2 h0) h (hexec.trans (congrArg (retire i) (shiftR1H_inRange h0 h))) hwf

/-- The two values that are drawn first make no difference to what the destination reads. -/
theorem completes_of_shiftR1H_outOfRange (hmem : Memory.wf s.mem = true) (h : sz.bits < (s.byte .r1hR3).toInt.natAbs) :
    Completes i s (UpdatesOne (ShiftsFreely k) sz dst s) := by
  rw [shiftR1H_outOfRange h] at hexec
  have hfree := updateOne_updates (s := (draw (draw s).2).2) (by simpa using hmem) (opShiftFree_keeps k (draw s).1 (draw (draw s).2).1)
    k.b_notMem_flags (opShiftFree_obeys k _ _ sz.bits) dst
  exact completes_of_retire hexec hwf (by simp) (draw_updatesOne.1 (draw_updatesOne.1 hfree)).with_pc

end

/-- Settles O30: both rotations obey their laws at every width. -/
theorem rotateThroughCarry : Obligations.RotateThroughCarry := by
  intro s sz dst hm hwf
  exact ⟨completes_of_updateOne hm opRolc_keeps (by decide) (opRolc_obeys.mono (Size.one_le_bits sz)) rfl hwf,
    completes_of_updateOne hm opRorc_keeps (by decide) (opRorc_obeys.mono (Size.one_le_bits sz)) rfl hwf⟩

/-- Settles O31: the count is 1 to 8, so that the closed form of the shifts holds at both sizes. -/
theorem shiftsByImmediate : Obligations.ShiftsByImmediate := by
  intro s sz c dst hm hwf
  have hcount : c.less1.toNat + 1 ≤ sz.bits := by
    have := c.less1.isLt
    cases sz <;> simp only [Size.bits] <;> omega
  exact ⟨completes_of_shift hm (Nat.succ_ne_zero _) hcount rfl hwf, completes_of_shift hm (Nat.succ_ne_zero _) hcount rfl hwf,
    completes_of_shift hm (Nat.succ_ne_zero _) hcount rfl hwf⟩

/-- Settles O32, by the three cases of `shiftR1H`. -/
theorem shiftsByR1H : Obligations.ShiftsByR1H := by
  intro s sz dst hm hwf k
  refine ⟨fun h0 => ?_, fun h0 h => ?_, fun h => ?_⟩
  · exact ⟨exec_shiftR1H_zero rfl hwf h0, exec_shiftR1H_zero rfl hwf h0, exec_shiftR1H_zero rfl hwf h0⟩
  · exact ⟨completes_of_shiftR1H_inRange rfl hwf hm h0 h, completes_of_shiftR1H_inRange rfl hwf hm h0 h,
      completes_of_shiftR1H_inRange rfl hwf hm h0 h⟩
  · exact ⟨completes_of_shiftR1H_outOfRange rfl hwf hm h, completes_of_shiftR1H_outOfRange rfl hwf hm h,
      completes_of_shiftR1H_outOfRange rfl hwf hm h⟩

/-! ### SHL.L and SHA.L (R307, R308, R311, R312) -/

theorem setFlg_pair (s : State) (f : Flg) (h : f.b = s.flg.b) (p : Pair) : (s.setFlg f).pair p = s.pair p := by
  cases p <;> simp [State.pair, setFlg_bank s f h]

/-- A `.L` shift by `m` places, with the value drawn for Z and C: what the forms by `#IMM` and by R1H have in common. -/
def shiftLong (k : ShiftKind) (right : Bool) (m : Nat) (p : Pair) (s : State) : State :=
  ((draw s).2.setPair p (longShift k right m s.flg (s.pair p) (draw s).1).1).setFlg
    (longShift k right m s.flg (s.pair p) (draw s).1).2

/-- The pair is shifted from `s` to `t`: the closed form at 32 bits, S its bit 31, Z and C free. -/
def ShiftsLong (k : ShiftKind) (right : Bool) (m : Nat) (p : Pair) (s t : State) : Prop :=
  (∃ out, ShiftResult k right m (s.pair p) (t.pair p) out) ∧
  t.flg = { s.flg with s := decide (2 ^ 31 ≤ (t.pair p).toNat), z := t.flg.z, c := t.flg.c }

section
variable {k : ShiftKind} {right : Bool} {m : Nat} {p : Pair} {c : ShiftCount} {s : State} {i : Instr}

theorem shiftLong_pair : (shiftLong k right m p s).pair p = (shiftSteps k right m (s.pair p, s.flg.c)).1 :=
  (setFlg_pair _ _ (by rw [setPair_flg]; rfl) p).trans (setPair_pair ..)

theorem shiftLong_shiftsLong (hm : m ≠ 0) (hmn : m ≤ 32) : ShiftsLong k right m p s (shiftLong k right m p s) := by
  rw [ShiftsLong, shiftLong_pair]
  refine ⟨⟨_, shiftResult_shiftSteps k right hm hmn (s.pair p) s.flg.c⟩, ?_⟩
  simp only [shiftLong, longShift, setFlg_flg, BitVec.msb_eq_decide]

theorem shiftLongImm_eq : shiftLongImm k p c s = shiftLong k c.right (c.less1.toNat + 1) p s := rfl

theorem shiftLongR1H_inRange (h0 : (s.byte .r1hR3).toInt ≠ 0) (h : (s.byte .r1hR3).toInt.natAbs ≤ 16) :
    shiftLongR1H k p s = shiftLong k (decide ((s.byte .r1hR3).toInt < 0)) (s.byte .r1hR3).toInt.natAbs p s :=
  (if_neg h0).trans (if_pos h)

theorem shiftLongR1H_outOfRange (h : 16 < (s.byte .r1hR3).toInt.natAbs) :
    shiftLongR1H k p s = ((draw (draw s).2).2.setPair p (draw s).1).setFlg (freeSZC s.flg (draw (draw s).2).1) :=
  (if_neg (by omega)).trans (if_neg (by omega))

theorem completes_of_shiftLong (hm : m ≠ 0) (hmn : m ≤ 32) (hexec : exec i s = retire i (shiftLong k right m p s))
    (hwf : i.wellFormed = true) : Completes i s (ShiftsLong k right m p s) :=
  completes_of_retire hexec hwf (by simp [shiftLong]) (shiftLong_shiftsLong hm hmn)

theorem completes_of_shiftLongImm (hexec : exec i s = retire i (shiftLongImm k p c s)) (hwf : i.wellFormed = true) :
    Completes i s (ShiftsLong k c.right (c.less1.toNat + 1) p s) :=
  completes_of_shiftLong (Nat.succ_ne_zero _) (by have := c.less1.isLt; omega) (hexec.trans (congrArg (retire i) shiftLongImm_eq)) hwf

variable (hexec : exec i s = retire i (shiftLongR1H k p s)) (hwf : i.wellFormed = true)
include hexec hwf

theorem exec_shiftLongR1H_zero (h0 : (s.byte .r1hR3).toInt = 0) : exec i s = .next { s with pc := s.nextPc i } := by
  rw [hexec, show shiftLongR1H k p s = s from if_pos h0]
  exact retire_selectable i s hwf

theorem completes_of_shiftLongR1H_inRange (h0 : (s.byte .r1hR3).toInt ≠ 0) (h : (s.byte .r1hR3).toInt.natAbs ≤ 16) :
    Completes i s (ShiftsLong k (decide ((s.byte .r1hR3).toInt < 0)) (s.byte .r1hR3).toInt.natAbs p s) :=
  completes_of_shiftLong (Int.natAbs_ne_zero.2 h0) (by omega) (hexec.trans (congrArg (retire i) (shiftLongR1H_inRange h0 h))) hwf

theorem completes_of_shiftLongR1H_outOfRange (h : 16 < (s.byte .r1hR3).toInt.natAbs) :
    Completes i s fun t => t.flg = { s.flg with s := t.flg.s, z := t.flg.z, c := t.flg.c } := by
  rw [shiftLongR1H_outOfRange h] at hexec
  exact completes_of_retire hexec hwf (by simp) rfl

end

/-- Settles O33: both forms by `#IMM`, and both by R1H in each of the three cases of `shiftLongR1H`. -/
theorem longShifts : Obligations.LongShifts := by
  intro s p done k
  refine ⟨fun c => ⟨?_, ?_⟩, fun h0 => ⟨?_, ?_⟩, fun h0 h => ⟨?_, ?_⟩, fun h => ?_⟩
  · exact completes_of_shiftLongImm rfl rfl
  · exact completes_of_shiftLongImm rfl rfl
  · exact exec_shiftLongR1H_zero rfl rfl h0
  · exact exec_shiftLongR1H_zero rfl rfl h0
  · exact completes_of_shiftLongR1H_inRange rfl rfl h0 h
  · exact completes_of_shiftLongR1H_inRange rfl rfl h0 h
  · exact List.forall_mem_cons.2 ⟨completes_of_shiftLongR1H_outOfRange rfl rfl h,
      List.forall_mem_singleton.2 (completes_of_shiftLongR1H_outOfRange rfl rfl h)⟩

end Sys2Proof.Machine
end


section
/-! SUPPORT. What an instruction with two operands or an immediate leaves in its destination, and what a comparison leaves in FLG (R118, R128,
R330): as for one operand, an operation that obeys a law on bit vectors obeys it on every destination. -/

namespace Sys2Proof.Machine

/-! ### PC during an operation (R28) -/

section
variable (s : State) (dst : Operand)

@[simp] theorem updateG_pc (op : Binary) (sz : Size) (src : Operand) : (updateG op sz src dst s).pc = s.pc := by
  cases sz <;> simp [updateG]

@[simp] theorem updateImm_pc (op : Binary) (v : Imm) : (updateImm op v dst s).pc = s.pc := by
  cases v <;> simp [updateImm]

@[simp] theorem compareG_pc (op : Compare) (sz : Size) (src : Operand) : (compareG op sz src dst s).pc = s.pc := by
  cases sz <;> simp [compareG]

@[simp] theorem compareImm_pc (op : Compare) (v : Imm) : (compareImm op v dst s).pc = s.pc := by
  cases v <;> simp [compareImm]

end

/-! ### Two operands and immediates -/

section
variable {op : Binary} {law : Law} {l : List Flag} {s : State} {i : Instr} {sz : Size} {src dst : Operand} {v : Imm}
  (hm : Memory.wf s.mem = true) (hkeeps : Binary.Keeps l op) (hb : .b ∉ l) (hop : Binary.Obeys op law 1)
include hm hkeeps hb hop

theorem updateG_updates (sz : Size) (src dst : Operand) : UpdatesFrom law sz src dst s (updateG op sz src dst s) := by
  cases sz with
  | b => exact update8_updates (by simpa using hm) hkeeps hb (hop.mono (by decide)) _ dst
  | w => exact update16_updates (by simpa using hm) hkeeps hb (hop.mono (by decide)) _ dst

theorem updateImm_updates (v : Imm) (dst : Operand) : UpdatesImm law v dst s (updateImm op v dst s) := by
  cases v with
  | b v => exact update8_updates hm hkeeps hb (hop.mono (by decide)) v dst
  | w v => exact update16_updates hm hkeeps hb (hop.mono (by decide)) v dst

/-- A two-operand instruction. -/
theorem completes_of_updateG (hexec : exec i s = retire i (updateG op sz src dst s)) (hwf : i.wellFormed = true) :
    Completes i s (UpdatesFrom law sz src dst s) :=
  completes_of_retire hexec hwf (updateG_pc ..) (updateG_updates hm hkeeps hb hop sz src dst).with_pc

/-- An instruction with an immediate source. -/
theorem completes_of_updateImm (hexec : exec i s = retire i (updateImm op v dst s)) (hwf : i.wellFormed = true) :
    Completes i s (UpdatesImm law v dst s) :=
  completes_of_retire hexec hwf (updateImm_pc ..) (updateImm_updates hm hkeeps hb hop v dst).with_pc

end

/-! ### Comparisons -/

/-- At every width the comparison's FLG is that of some result under the law. -/
def Compare.Obeys (op : Compare) (law : Law) : Prop :=
  ∀ (n : Nat), 1 ≤ n → ∀ (f : Flg) (d x : BitVec n), ∃ r, law n f d x r (op n f d x)

section
variable {op : Compare} {law : Law} {s t u : State} {i : Instr} {sz : Size} {src dst : Operand} {v : Imm} {p : Addr}

/-- FLG is all of the state after a comparison that its law looks at. -/
theorem Compares8.of_same_flg {x : Byte} (h : Compares8 law x s t dst) (hflg : u.flg = t.flg) : Compares8 law x s u dst := by
  cases dst <;> simpa only [Compares8, hflg] using h

theorem Compares16.of_same_flg {x : Word} (h : Compares16 law x s t dst) (hflg : u.flg = t.flg) : Compares16 law x s u dst := by
  cases dst <;> simpa only [Compares16, hflg] using h

theorem ComparesFrom.with_pc (h : ComparesFrom law sz src dst s t) : ComparesFrom law sz src dst s { t with pc := p } := by
  cases sz
  · exact Compares8.of_same_flg h rfl
  · exact Compares16.of_same_flg h rfl

theorem ComparesImm.with_pc (h : ComparesImm law v dst s t) : ComparesImm law v dst s { t with pc := p } := by
  cases v
  · exact Compares8.of_same_flg h rfl
  · exact Compares16.of_same_flg h rfl

theorem compareG_untouched (op : Compare) (sz : Size) (src dst : Operand) (s : State) : Untouched s (compareG op sz src dst s) := by
  cases sz <;> simp [Untouched, compareG]

theorem compareImm_untouched (op : Compare) (v : Imm) (dst : Operand) (s : State) : Untouched s (compareImm op v dst s) := by
  cases v <;> simp [Untouched, compareImm]

variable (hop : Compare.Obeys op law)
include hop

theorem compare8_compares (x : Byte) (dst : Operand) (s : State) : Compares8 law x s (compare8 op x dst s) dst := by
  cases dst with
  | dreg r => exact hop 8 (by decide) ..
  | areg a => exact hop 16 (by decide) ..
  | mem m => exact hop 8 (by decide) ..

theorem compare16_compares (x : Word) (dst : Operand) (s : State) : Compares16 law x s (compare16 op x dst s) dst := by
  cases dst with
  | dreg r => exact hop 16 (by decide) ..
  | areg a => exact hop 16 (by decide) ..
  | mem m => exact hop 16 (by decide) ..

theorem compareG_compares (sz : Size) (src dst : Operand) (s : State) :
    ComparesFrom law sz src dst s (compareG op sz src dst s) := by
  cases sz
  · exact compare8_compares hop _ dst _
  · exact compare16_compares hop _ dst _

theorem compareImm_compares (v : Imm) (dst : Operand) (s : State) : ComparesImm law v dst s (compareImm op v dst s) := by
  cases v
  · exact compare8_compares hop _ dst s
  · exact compare16_compares hop _ dst s

/-- A comparison of two operands. -/
theorem completes_of_compareG (hexec : exec i s = retire i (compareG op sz src dst s)) (hwf : i.wellFormed = true) :
    Completes i s fun t => ComparesFrom law sz src dst s t ∧ Untouched s t :=
  completes_of_retire hexec hwf (compareG_pc ..) ⟨(compareG_compares hop sz src dst s).with_pc, compareG_untouched op sz src dst s⟩

/-- A comparison with an immediate. -/
theorem completes_of_compareImm (hexec : exec i s = retire i (compareImm op v dst s)) (hwf : i.wellFormed = true) :
    Completes i s fun t => ComparesImm law v dst s t ∧ Untouched s t :=
  completes_of_retire hexec hwf (compareImm_pc ..) ⟨(compareImm_compares hop v dst s).with_pc, compareImm_untouched op v dst s⟩

end

end Sys2Proof.Machine
end


section
/-! SUPPORT. Addition, subtraction and comparison (R331, R332, R334 to R346, R352, R353, R360 to R366): the model's result and flags in plain
arithmetic, and from it the statements about the instructions. -/

namespace Sys2Proof.Machine

/-! ### Result and flags (R331, R332) -/

/-- O of an exact result, as the model computes it and in plain arithmetic. -/
theorem not_fitsSigned (n : Nat) (i : Int) : (!fitsSigned n i) = outsideSigned n i := by
  have hpow : Int.ofNat (2 ^ (n - 1)) = (2 ^ (n - 1) : Int) := Int.natCast_pow 2 (n - 1)
  rw [Bool.eq_iff_iff]
  simp only [fitsSigned, outsideSigned, hpow, Bool.not_eq_true', Bool.and_eq_false_iff, decide_eq_false_iff_not, decide_eq_true_eq]
  omega

/-- An integer taken modulo 2^n. -/
theorem toNat_ofInt_eq_emod (n : Nat) (i : Int) : ((BitVec.ofInt n i).toNat : Int) = i % 2 ^ n := by
  have hpos : (0 : Int) < 2 ^ n := by positivity
  rw [BitVec.toNat_ofInt, Nat.cast_pow, Nat.cast_ofNat]
  exact Int.toNat_of_nonneg (Int.emod_nonneg i hpos.ne')

/-- Settles O17: the sum is taken modulo 2^n, and O is set where the exact signed sum does not fit. -/
theorem additionFlags : Obligations.AdditionFlags := by
  intro n f a b c hn
  refine ⟨BitVec.toNat_ofNat _ n, ?_⟩
  simp only [addF, setSZ_eq_signZero, not_fitsSigned]
  rfl

theorem subF_subtracts {n : Nat} (f : Flg) (a b : BitVec n) (k : Bool) :
    Subtracts (fun _ => k) n f a b (subF f a b k).1 (subF f a b k).2 := by
  refine ⟨?_, ?_⟩
  · exact toNat_ofInt_eq_emod n _
  · have hborrow : (0 ≤ Int.ofNat a.toNat - Int.ofNat b.toNat - Int.ofNat k.toNat) ↔ b.toNat + k.toNat ≤ a.toNat := by
      simp only [Int.ofNat_eq_natCast]
      omega
    simp only [subF, setSZ_eq_signZero, not_fitsSigned, hborrow]
    rfl

/-- Settles O18: SBB is the subtraction whose borrow is the inverted C. -/
theorem subtractionFlags : Obligations.SubtractionFlags :=
  fun _ f a b _ => ⟨subF_subtracts f a b, subF_subtracts f a b (!f.c)⟩

theorem opAdd_obeys : Binary.Obeys opAdd (Adds fun _ => false) 1 := fun n hn f d x => additionFlags n f d x false hn
theorem opAdc_obeys : Binary.Obeys opAdc (Adds Flg.c) 1 := fun n hn f d x => additionFlags n f d x f.c hn
theorem opAdcf_obeys : Binary.Obeys opAdcf AddsCarry 1 := fun n hn f d _ => additionFlags n f d 0 f.c hn
theorem opSub_obeys : Binary.Obeys opSub (Subtracts fun _ => false) 1 := fun _ _ f d x => subF_subtracts f d x false
theorem opSbb_obeys : Binary.Obeys opSbb (Subtracts fun f => !f.c) 1 := fun _ _ f d x => subF_subtracts f d x (!f.c)
theorem opNeg_obeys : Binary.Obeys opNeg Negates 1 := fun _ _ f d _ => subF_subtracts f 0 d false
theorem opCmp_obeys : Compare.Obeys opCmp (Subtracts fun _ => false) := fun _ _ f d x => ⟨_, subF_subtracts f d x false⟩

/-! ### ADD, ADC, ADCF (R334 to R341, R352, R353) -/

section
variable {s : State} {i : Instr} {v : Word}

theorem addToSp_pc (v : Word) (s : State) : (addToSp v s).pc = s.pc := by
  simp [addToSp]

/-- U is none of the flags of an addition, so the stack pointer that takes the sum is still the selected one (R31). -/
theorem addToSp_adds (v : Word) (s : State) : Adds (fun _ => false) 16 s.flg s.sp v (addToSp v s).sp (addToSp v s).flg := by
  have hu : (addF s.flg s.sp v false).2.u = (s.setSp (addF s.flg s.sp v false).1).flg.u := (congrArg Flg.u (setSp_flg ..)).symm
  have hsp : (addToSp v s).sp = (addF s.flg s.sp v false).1 := (setFlg_sp _ _ hu).trans (setSp_sp ..)
  rw [hsp]
  exact additionFlags 16 s.flg s.sp v false (by decide)

theorem completes_of_addToSp (hexec : exec i s = retire i (addToSp v s)) (hwf : i.wellFormed = true) :
    Completes i s fun t => Adds (fun _ => false) 16 s.flg s.sp v t.sp t.flg :=
  completes_of_retire hexec hwf (addToSp_pc v s) (addToSp_adds v s)

/-- The sign-extended immediate forms. -/
theorem completes_of_addToSp_value {n : Int} (hexec : exec i s = retire i (addToSp v s)) (hwf : i.wellFormed = true) (hv : v.toInt = n) :
    Completes i s fun t => ∃ x : Word, x.toInt = n ∧ Adds (fun _ => false) 16 s.flg s.sp x t.sp t.flg := by
  obtain ⟨t, hnext, hpc, hadds⟩ := completes_of_addToSp hexec hwf
  exact ⟨t, hnext, hpc, v, hv, hadds⟩

end

/-- The quick form is an immediate form (R108 a). -/
theorem exec_addQ (sz : Size) (v : BitVec 4) (dst : Operand) (s : State) :
    exec (.addQ sz v dst) s = retire (.addQ sz v dst) (updateImm opAdd (quick sz v) dst s) := by
  cases sz <;> rfl

/-- Settles O19, form by form: each is an update by an operation that adds. -/
theorem additions : Obligations.Additions := by
  intro s hm
  refine ⟨fun sz src dst hwf => ?_, fun v dst => ?_, fun sz v dst => ?_, fun v d => ?_, fun h x => ?_, fun sz src dst hwf => ?_,
    fun v dst => ?_, fun sz dst hwf => ?_, fun v => ?_, fun v => ?_, fun v => ?_⟩
  · exact completes_of_updateG hm opAdd_keeps (by decide) opAdd_obeys rfl hwf
  · exact completes_of_updateImm hm opAdd_keeps (by decide) opAdd_obeys rfl rfl
  · exact completes_of_updateImm hm opAdd_keeps (by decide) opAdd_obeys (exec_addQ sz v dst s) rfl
  · exact completes_of_updateImm (v := .b v) hm opAdd_keeps (by decide) opAdd_obeys rfl rfl
  · exact completes_of_updateG hm opAdd_keeps (by decide) opAdd_obeys rfl rfl
  · exact completes_of_updateG hm opAdc_keeps (by decide) opAdc_obeys rfl hwf
  · exact completes_of_updateImm hm opAdc_keeps (by decide) opAdc_obeys rfl rfl
  · exact completes_of_updateOne hm opAdcf_keeps (by decide) (opAdcf_obeys.mono (Size.one_le_bits sz)) rfl hwf
  · exact completes_of_addToSp_value rfl rfl (BitVec.toInt_signExtend_of_le (by decide))
  · exact completes_of_addToSp rfl rfl
  · exact completes_of_addToSp_value rfl rfl (BitVec.toInt_signExtend_of_le (by decide))

/-! ### SUB, SBB, NEG (R360 to R366) -/

/-- Settles O20, form by form: each is an update by an operation that subtracts. -/
theorem subtractions : Obligations.Subtractions := by
  intro s hm
  refine ⟨fun sz src dst hwf => ?_, fun v dst => ?_, fun v d => ?_, fun h x => ?_, fun sz src dst hwf => ?_, fun v dst => ?_,
    fun sz dst hwf => ?_⟩
  · exact completes_of_updateG hm opSub_keeps (by decide) opSub_obeys rfl hwf
  · exact completes_of_updateImm hm opSub_keeps (by decide) opSub_obeys rfl rfl
  · exact completes_of_updateImm (v := .b v) hm opSub_keeps (by decide) opSub_obeys rfl rfl
  · exact completes_of_updateG hm opSub_keeps (by decide) opSub_obeys rfl rfl
  · exact completes_of_updateG hm opSbb_keeps (by decide) opSbb_obeys rfl hwf
  · exact completes_of_updateImm hm opSbb_keeps (by decide) opSbb_obeys rfl rfl
  · exact completes_of_updateOne hm opNeg_keeps (by decide) (opNeg_obeys.mono (Size.one_le_bits sz)) rfl hwf

/-! ### CMP (R342 to R346) -/

/-- The quick form is an immediate form (R108 a). -/
theorem exec_cmpQ (sz : Size) (v : BitVec 4) (dst : Operand) (s : State) :
    exec (.cmpQ sz v dst) s = retire (.cmpQ sz v dst) (compareImm opCmp (quick sz v) dst s) := by
  cases sz <;> rfl

/-- Settles O21, form by form: each is a comparison by the flags of a subtraction. -/
theorem comparisons : Obligations.Comparisons := by
  intro s
  refine ⟨fun sz src dst hwf => ?_, fun v dst => ?_, fun sz v dst => ?_, fun v d => ?_, fun h x => ?_⟩
  · exact completes_of_compareG opCmp_obeys rfl hwf
  · exact completes_of_compareImm opCmp_obeys rfl rfl
  · exact completes_of_compareImm opCmp_obeys (exec_cmpQ sz v dst s) rfl
  · exact completes_of_compareImm (v := .b v) opCmp_obeys rfl rfl
  · exact completes_of_compareG opCmp_obeys rfl rfl

end Sys2Proof.Machine
end


section
/-! SUPPORT. INC, DEC, ABS, EXTS.B and EXTS.W (R333, R354 to R359): the model's results in plain arithmetic, and from it the statement about the
instructions. -/

namespace Sys2Proof.Machine

/-! ### INC, DEC, ABS (R333, R354, R355, R358, R359) -/

theorem opInc_obeys : Binary.Obeys opInc (Counts 1) 1 := by
  intro n hn f d x
  refine ⟨?_, setSZ_eq_signZero ..⟩
  simp [opInc, BitVec.toNat_add]

theorem opDec_obeys : Binary.Obeys opDec (Counts (-1)) 1 := by
  intro n hn f d x
  refine ⟨?_, setSZ_eq_signZero ..⟩
  have hsub : d - 1 = BitVec.ofInt n (d.toNat + -1) := by
    rw [BitVec.ofInt_add, BitVec.ofInt_natCast, BitVec.ofNat_toNat, BitVec.setWidth_eq, BitVec.ofInt_neg, BitVec.sub_eq_add_neg]
    rfl
  rw [opDec, hsub]
  exact toNat_ofInt_eq_emod n _

theorem toInt_eq_min_iff {n : Nat} (hn : 0 < n) (d : BitVec n) :
    d.toInt = -(2 ^ (n - 1) : Int) ↔ d = BitVec.twoPow n (n - 1) := by
  have hmin : (BitVec.twoPow n (n - 1)).toInt = -(2 ^ (n - 1) : Int) := BitVec.toInt_intMin_of_pos hn
  rw [← hmin, BitVec.toInt_inj]

theorem opAbs_obeys (c : Bool) : Binary.Obeys (opAbs c) Absolute 1 := by
  intro n hn f d x
  refine ⟨?_, ?_⟩
  · cases hmsb : d.msb
    · simp [opAbs, hmsb, BitVec.toInt_eq_toNat_of_msb hmsb]
    · simp [opAbs, hmsb, BitVec.toInt_eq_neg_toNat_neg_of_msb_true hmsb]
  · simp only [opAbs, setSZ_eq_signZero, toInt_eq_min_iff hn]

/-- The value that is drawn first makes no difference to what the destination reads. -/
theorem completes_of_abs {s : State} {sz : Size} {dst : Operand} (hm : Memory.wf s.mem = true) (hwf : (Instr.abs sz dst).wellFormed = true) :
    Completes (.abs sz dst) s (UpdatesOne Absolute sz dst s) := by
  have habs := updateOne_updates (s := (draw s).2) (by simpa using hm) (opAbs_keeps ((draw s).1.getLsbD 0)) (by decide)
    ((opAbs_obeys _).mono (Size.one_le_bits sz)) dst
  exact completes_of_retire rfl hwf (by simp) (draw_updatesOne.1 habs).with_pc

/-! ### EXTS.B and EXTS.W (R356, R357) -/

section
variable (s : State)

theorem extendByte_pc (dst : Operand) : (extendByte dst s).pc = s.pc := by
  cases dst with
  | dreg r => cases r <;> simp [extendByte]
  | areg a => rfl
  | mem m => simp [extendByte]

/-- A word register that takes a sign-extended byte, and the flags of it. -/
theorem setWord_signExtend (r : DReg) (b : Byte) :
    ((((s.setWord r (b.signExtend 16)).setFlg (setSZ s.flg (b.signExtend 16))).word r).toInt = b.toInt) ∧
      setSZ s.flg (b.signExtend 16) =
        signZero s.flg (((s.setWord r (b.signExtend 16)).setFlg (setSZ s.flg (b.signExtend 16))).word r) := by
  rw [setFlg_word _ _ (by simp), setWord_word]
  exact ⟨BitVec.toInt_signExtend_of_le (by decide), setSZ_eq_signZero ..⟩

end

/-- Settles O25: INC, DEC and ABS are updates of their destination, EXTS a sign extension into each kind of destination. -/
theorem countAbsoluteExtend : Obligations.CountAbsoluteExtend := by
  intro s hm
  refine ⟨fun d => ?_, fun d => ?_, fun a => ?_, fun a => ?_, fun sz dst hwf => ?_, ?_, ?_, fun m => ?_, ?_⟩
  · exact completes_of_updateOne hm opInc_keeps (by decide) (opInc_obeys.mono (by decide)) rfl rfl
  · exact completes_of_updateOne hm opDec_keeps (by decide) (opDec_obeys.mono (by decide)) rfl rfl
  · exact completes_of_updateOne hm opInc_keeps (by decide) (opInc_obeys.mono (by decide)) rfl rfl
  · exact completes_of_updateOne hm opDec_keeps (by decide) (opDec_obeys.mono (by decide)) rfl rfl
  · exact completes_of_abs hm hwf
  · exact completes_of_retire rfl rfl (extendByte_pc ..) (setWord_signExtend s .r0lR0 (s.byte .r0lR0))
  · exact completes_of_retire rfl rfl (extendByte_pc ..) (setWord_signExtend s .r0hR1 (s.byte .r1lR2))
  · refine completes_of_retire rfl rfl (extendByte_pc ..) ⟨(readByte s (s.ea m)).1.signExtend 16, ?_, ?_, setSZ_eq_signZero ..⟩
    · exact BitVec.toInt_signExtend_of_le (by decide)
    · exact ((stored_write16 (by simpa using hm) _).setFlg _).with_pc
  · refine completes_of_retire rfl rfl (setPair_pc ..) ⟨?_, setPair_flg ..⟩
    exact (congrArg BitVec.toInt (setPair_pair s .r2r0 _)).trans (BitVec.toInt_signExtend_of_le (by decide))

end Sys2Proof.Machine
end


section
/-! SUPPORT. The decimal instructions (R347 to R351, U6): the model's packing and unpacking of decimal digits against the digits of R347, and from it
the statement about the instructions. -/

namespace Sys2Proof.Machine

/-! ### Packed decimal digits (R347) -/

/-- Unpacking one digit more. -/
theorem decDigits_succ_eq_some {k x v : Nat} :
    decDigits (k + 1) x = some v ↔ ∃ h, decDigits k (x / 16) = some h ∧ x % 16 < 10 ∧ 10 * h + x % 16 = v := by
  rw [decDigits]
  cases decDigits k (x / 16) <;> simp

/-- Unpacking answers the decimal value, if every digit is a decimal digit. -/
theorem decDigits_eq_some {k x v : Nat} :
    decDigits k x = some v ↔ (∀ j, j < k → x / 16 ^ j % 16 < 10) ∧ ((List.range k).map fun j => x / 16 ^ j % 16 * 10 ^ j).sum = v := by
  induction k generalizing x v with
  | zero => simp [decDigits]
  | succ k ih =>
    have hdigit (j : Nat) : x / 16 ^ (j + 1) = x / 16 / 16 ^ j := by rw [pow_succ', Nat.div_div_eq_div_mul]
    have hterm (j : Nat) : x / 16 ^ (j + 1) % 16 * 10 ^ (j + 1) = x / 16 / 16 ^ j % 16 * 10 ^ j * 10 := by
      rw [hdigit, pow_succ, Nat.mul_assoc]
    have hsum : ((List.range (k + 1)).map fun j => x / 16 ^ j % 16 * 10 ^ j).sum =
        10 * ((List.range k).map fun j => x / 16 / 16 ^ j % 16 * 10 ^ j).sum + x % 16 := by
      simp only [List.range_succ_eq_map, List.map_cons, List.map_map, List.sum_cons, Function.comp_def, hterm, List.sum_map_mul_right,
        pow_zero, Nat.div_one, Nat.mul_one]
      omega
    simp only [decDigits_succ_eq_some, ih, Nat.forall_lt_succ_left, hdigit, hsum, pow_zero, Nat.div_one]
    constructor
    · rintro ⟨h, ⟨hdigits, rfl⟩, hlow, hv⟩
      exact ⟨⟨hlow, hdigits⟩, hv⟩
    · rintro ⟨⟨hlow, hdigits⟩, hv⟩
      exact ⟨_, ⟨hdigits, rfl⟩, hlow, hv⟩

/-- Unpacking undoes packing. -/
theorem decDigits_bcdDigits (k v : Nat) : decDigits k (bcdDigits k v) = some (v % 10 ^ k) := by
  induction k generalizing v with
  | zero => simp [decDigits, Nat.mod_one]
  | succ k ih =>
    have hhigh : bcdDigits (k + 1) v / 16 = bcdDigits k (v / 10) := by rw [bcdDigits]; omega
    have hlow : bcdDigits (k + 1) v % 16 = v % 10 := by rw [bcdDigits]; omega
    have hmod : v % 10 ^ (k + 1) = v % 10 + 10 * (v / 10 % 10 ^ k) := by rw [pow_succ', Nat.mod_mul]
    exact decDigits_succ_eq_some.2 ⟨v / 10 % 10 ^ k, by rw [hhigh, ih], by omega, by omega⟩

theorem bcdDigits_lt (k v : Nat) : bcdDigits k v < 16 ^ k := by
  induction k generalizing v with
  | zero => simp [bcdDigits]
  | succ k ih =>
    have := ih (v / 10)
    rw [bcdDigits, pow_succ']
    omega

section
variable {n : Nat} {x : BitVec n} {v : Nat}

/-- Unpacking a bit vector, in the words of R347. -/
theorem decDigits_toNat_eq_some : decDigits (n / 4) x.toNat = some v ↔ IsBcd x ∧ bcdValue x = v := decDigits_eq_some

/-- A packed value has that value, and it needs no more than the `n` bits. -/
theorem bcdDigits_isBcd (hv : v < 10 ^ (n / 4)) :
    IsBcd (BitVec.ofNat n (bcdDigits (n / 4) v)) ∧ bcdValue (BitVec.ofNat n (bcdDigits (n / 4) v)) = v := by
  have hpow : 16 ^ (n / 4) ≤ 2 ^ n := by
    rw [show 16 = 2 ^ 4 from rfl, ← pow_mul]
    exact Nat.pow_le_pow_right (by decide) (Nat.mul_div_le n 4)
  rw [← decDigits_toNat_eq_some, BitVec.toNat_ofNat, Nat.mod_eq_of_lt ((bcdDigits_lt _ v).trans_le hpow), decDigits_bcdDigits,
    Nat.mod_eq_of_lt hv]

end

/-! ### The decimal operations (R348 to R351) -/

section
variable {op : Decimal} {carry : Nat → Int → Bool} {n : Nat} {f : Flg} {d x : BitVec n}

/-- There is a result for packed-BCD operands. -/
theorem decimalResult_of_isBcd (op : Decimal) (carry : Nat → Int → Bool) (f : Flg) (hd : IsBcd d) (hx : IsBcd x) :
    ∃ r, decimalResult op carry f d x = some (r, { setSZ f r with c := carry (n / 4) (op f (bcdValue d) (bcdValue x)) }) ∧
      IsBcd r ∧ (bcdValue r : Int) = op f (bcdValue d) (bcdValue x) % (10 ^ (n / 4) : Int) := by
  have hpos : (0 : Int) < 10 ^ (n / 4) := by positivity
  have hnonneg := Int.emod_nonneg (op f (bcdValue d) (bcdValue x)) hpos.ne'
  have hlt := Int.emod_lt_of_pos (op f (bcdValue d) (bcdValue x)) hpos
  obtain ⟨v, hv⟩ := Int.eq_ofNat_of_zero_le hnonneg
  obtain ⟨hbcd, hvalue⟩ := bcdDigits_isBcd (n := n) (v := v) (by rw [hv] at hlt; exact_mod_cast hlt)
  refine ⟨_, ?_, hbcd, by rw [hvalue, hv]⟩
  have hemod : (op f (bcdValue d) (bcdValue x)).emod (Int.ofNat (10 ^ (n / 4))) = v := by
    rw [← hv, Int.ofNat_eq_natCast, Nat.cast_pow]
    rfl
  rw [decimalResult, decDigits_toNat_eq_some.2 ⟨hd, rfl⟩, decDigits_toNat_eq_some.2 ⟨hx, rfl⟩]
  simp only [Int.ofNat_eq_natCast] at hemod ⊢
  rw [hemod, Int.toNat_natCast]

theorem decimalResult_computes {v : BitVec n × Flg} (h : decimalResult op carry f d x = some v) :
    ComputesDecimal op carry n f d x v.1 v.2 := by
  refine ⟨fun hd hx => ?_, ?_⟩
  · obtain ⟨r, hresult, hbcd, hvalue⟩ := decimalResult_of_isBcd op carry f hd hx
    obtain rfl := Option.some.inj (hresult.symm.trans h)
    exact ⟨hbcd, hvalue, by rw [setSZ_eq_signZero]⟩
  · unfold decimalResult at h
    split at h
    · obtain rfl := Option.some.inj h
      rfl
    · cases h

/-- With a digit above 9 the result, S, Z and C are free (U6). -/
theorem freeSZC_computes (h : decimalResult op carry f d x = none) (r : BitVec n) (w : Long) :
    ComputesDecimal op carry n f d x r (freeSZC f w) := by
  refine ⟨fun hd hx => ?_, rfl⟩
  obtain ⟨r, hresult, -⟩ := decimalResult_of_isBcd op carry f hd hx
  cases h.symm.trans hresult

end

/-! ### DADD, DADC, DSUB, DSBB (R347 to R351) -/

section
variable {op : Decimal} {carry : Nat → Int → Bool} {s : State} {i : Instr} {sz : Size} {v : Imm}

/-- R0L takes the result, packed or free; B is none of the flags that change. -/
theorem decimal8_updates (x : Byte) : Updates8 (ComputesDecimal op carry) x s (decimal8 op carry x s) (.dreg .r0lR0) := by
  unfold decimal8
  split
  · next v hresult =>
    have hb : v.2.b = s.flg.b := (decimalResult_keeps hresult).flags .b (by decide)
    rw [Updates8, setFlg_byte _ _ (by rw [hb, setByte_flg]), setByte_byte]
    exact decimalResult_computes hresult
  · next hresult =>
    rw [Updates8, setFlg_byte _ _ (by simp [freeSZC]), setByte_byte]
    exact freeSZC_computes hresult _ _

theorem decimal16_updates (x : Word) : Updates16 (ComputesDecimal op carry) x s (decimal16 op carry x s) (.dreg .r0lR0) := by
  unfold decimal16
  split
  · next v hresult =>
    have hb : v.2.b = s.flg.b := (decimalResult_keeps hresult).flags .b (by decide)
    rw [Updates16, setFlg_word _ _ (by rw [hb, setWord_flg]), setWord_word]
    exact decimalResult_computes hresult
  · next hresult =>
    rw [Updates16, setFlg_word _ _ (by simp [freeSZC]), setWord_word]
    exact freeSZC_computes hresult _ _

theorem decimal8_pc (x : Byte) : (decimal8 op carry x s).pc = s.pc := by
  unfold decimal8
  split <;> simp

theorem decimal16_pc (x : Word) : (decimal16 op carry x s).pc = s.pc := by
  unfold decimal16
  split <;> simp

/-- The register forms: R0H into R0L, or R1 into R0. -/
theorem completes_of_decimalReg (hexec : exec i s = retire i (decimalReg op carry sz s)) (hwf : i.wellFormed = true) :
    Completes i s (UpdatesFrom (ComputesDecimal op carry) sz (.dreg .r0hR1) (.dreg .r0lR0) s) := by
  cases sz with
  | b => exact completes_of_retire hexec hwf (decimal8_pc _) (decimal8_updates (s.byte .r0hR1)).with_pc
  | w => exact completes_of_retire hexec hwf (decimal16_pc _) (decimal16_updates (s.word .r0hR1)).with_pc

/-- The immediate forms. -/
theorem completes_of_decimalImm (hexec : exec i s = retire i (decimalImm op carry v s)) (hwf : i.wellFormed = true) :
    Completes i s (UpdatesImm (ComputesDecimal op carry) v (.dreg .r0lR0) s) := by
  cases v with
  | b v => exact completes_of_retire hexec hwf (decimal8_pc v) (decimal8_updates v).with_pc
  | w v => exact completes_of_retire hexec hwf (decimal16_pc v) (decimal16_updates v).with_pc

end

theorem decCarryAdd_eq : decCarryAdd = fun k t => decide ((10 ^ k : Int) ≤ t) := by
  funext k t
  rw [decCarryAdd, Int.ofNat_eq_natCast, Nat.cast_pow, Nat.cast_ofNat]

/-- Settles O26: each form is a decimal operation whose exact result and C are those of its rule. -/
theorem decimalArithmetic : Obligations.DecimalArithmetic := by
  intro s add adc sub sbb carry noBorrow reg
  have hcarry : carry = decCarryAdd := decCarryAdd_eq.symm
  rw [hcarry]
  refine ⟨fun sz => ?_, fun sz => ?_, fun sz => ?_, fun sz => ?_, fun v => ?_, fun v => ?_, fun v => ?_, fun v => ?_⟩
  · exact completes_of_decimalReg (op := decAdd) rfl rfl
  · exact completes_of_decimalReg (op := decAdc) rfl rfl
  · exact completes_of_decimalReg (op := decSub) (carry := decCarrySub) rfl rfl
  · exact completes_of_decimalReg (op := decSbb) (carry := decCarrySub) rfl rfl
  · exact completes_of_decimalImm (op := decAdd) rfl rfl
  · exact completes_of_decimalImm (op := decAdc) rfl rfl
  · exact completes_of_decimalImm (op := decSub) (carry := decCarrySub) rfl rfl
  · exact completes_of_decimalImm (op := decSbb) (carry := decCarrySub) rfl rfl

end Sys2Proof.Machine
end


section
/-! SUPPORT. The multiplications (R407 to R411): the product of two operands is exact in twice their width, and the table of R407 says where it
goes, a register, a pair or the bytes of memory. -/

namespace Sys2Proof.Machine

/-! ### The product (R408, R410) -/

section
variable {n : Nat} (a b : BitVec n)

/-- A signed product needs no more than twice the width of its factors. -/
theorem toInt_mul_toInt_bounds (hn : 0 < n) :
    -(2 ^ (n + n - 1) : Int) ≤ a.toInt * b.toInt ∧ a.toInt * b.toInt < 2 ^ (n + n - 1) := by
  have hpow : (2 ^ (n * 2 - 2) : Int) < 2 ^ (n + n - 1) := pow_lt_pow_right₀ (by decide) (by omega)
  have hlower := BitVec.le_toInt_mul_toInt (x := a) (y := b)
  have hupper := BitVec.toInt_mul_toInt_le (x := a) (y := b)
  exact ⟨by linarith, by linarith⟩

theorem product_isProduct (signed : Bool) (hn : 0 < n) : IsProduct signed a b (product signed a b) := by
  cases signed with
  | true =>
    obtain ⟨hlower, hupper⟩ := toInt_mul_toInt_bounds a b hn
    exact BitVec.toInt_ofInt_eq_self (by omega) hlower hupper
  | false => exact Nat.mod_eq_of_lt (by rw [pow_add]; exact Nat.mul_lt_mul'' a.isLt b.isLt)

end

/-! ### Four stored bytes (R63) -/

section
variable {s t : State} {a : Addr}

theorem deviceWrites_append (l : Layout) (a : Addr) (bs cs : List Byte) :
    deviceWrites l a (bs ++ cs) = deviceWrites l (a + BitVec.ofNat 20 bs.length) cs ++ deviceWrites l a bs := by
  induction bs generalizing a with
  | nil => simp [deviceWrites]
  | cons b bs ih =>
    have haddr : a + 1 + BitVec.ofNat 20 bs.length = a + BitVec.ofNat 20 (bs.length + 1) := by
      rw [BitVec.ofNat_add, BitVec.add_assoc, BitVec.add_comm 1]
      rfl
    simp only [List.cons_append, deviceWrites, ih, haddr, List.length_cons, List.append_assoc]

/-- A word stored behind another one leaves the first as it is. -/
theorem write16_next_peek (v : Word) {k : Nat} (hk : k < 2) :
    (write16 t (a + 2) v).peek (a + BitVec.ofNat 20 k) = t.peek (a + BitVec.ofNat 20 k) := by
  interval_cases k
  · exact write16_peek_ne _ _ _ _ (by bv_omega) (by bv_omega)
  · exact write16_peek_ne _ _ _ _ (by bv_omega) (by bv_omega)

theorem stored_write32 (hm : Memory.wf s.mem = true) (v : Long) : Stored (write32 s a v) a (longBytes v) := by
  obtain ⟨hlow, -⟩ := stored_write16 (a := a) hm (v.extractLsb' 0 16)
  obtain ⟨hhigh, -⟩ := stored_write16 (a := a + 2) (write16_wf s a (v.extractLsb' 0 16) hm) (v.extractLsb' 16 16)
  constructor
  · intro k w hk
    rcases Nat.lt_or_ge k 2 with hk2 | hk2
    · rw [MemIs, write32, write16_layout, write16_next_peek _ hk2]
      exact hlow k w (by rwa [longBytes, List.getElem?_append_left (by simpa [wordBytes] using hk2)] at hk)
    · obtain ⟨j, rfl⟩ := Nat.exists_eq_add_of_le hk2
      rw [BitVec.ofNat_add, ← BitVec.add_assoc]
      refine hhigh j w ?_
      rwa [longBytes, List.getElem?_append_right (by simp [wordBytes]), show 2 + j - (wordBytes (v.extractLsb' 0 16)).length = j from
        Nat.add_sub_cancel_left 2 j] at hk
  · rw [write32_layout, write32, write16_platformLog, write16_platformLog, write16_layout, ← List.append_assoc, longBytes,
      deviceWrites_append]
    exact List.prefix_append _ _

end

/-! ### Destinations (R407) -/

/-- A1A0 reads back what it took (R23, R122). -/
theorem setApair_a1a0_apair (s : State) (v : Long) : (s.setApair .a1a0 v).apair .a1a0 = v := by
  simp only [State.setApair, State.apair, setBank_bank, word_halves]

section
variable {signed : Bool} {s t u : State} {p : Addr} {sz : Size} {src dst : Operand} {v : Imm} {i : Instr}

theorem Multiplies8.with_pc {x : Byte} (h : Multiplies8 signed x u t dst) : Multiplies8 signed x u { t with pc := p } dst := by
  cases dst with
  | dreg r => cases r <;> exact h
  | areg a => cases a <;> exact h
  | mem m => exact h

theorem Multiplies16.with_pc {x : Word} (h : Multiplies16 signed x u t dst) : Multiplies16 signed x u { t with pc := p } dst := by
  cases dst with
  | dreg r => cases r <;> exact h
  | areg a => cases a <;> exact h
  | mem m => exact h

theorem isProduct_of_eq_product {n : Nat} {d x : BitVec n} {r : BitVec (n + n)} (hn : 0 < n) (hr : r = product signed d x) :
    IsProduct signed d x r :=
  hr ▸ product_isProduct d x signed hn

theorem multiply8_multiplies (hm : Memory.wf s.mem = true) (hdst : mulDest .b dst = true) (x : Byte) :
    Multiplies8 signed x s (multiply8 signed x dst s) dst := by
  cases dst with
  | dreg r =>
    cases r with
    | r0lR0 => exact isProduct_of_eq_product (n := 8) (by decide) (setWord_word s .r0lR0 _)
    | r1lR2 => exact isProduct_of_eq_product (n := 8) (by decide) (setWord_word s .r0hR1 _)
    | r0hR1 | r1hR3 => cases hdst
  | areg a =>
    cases a with
    | a0 =>
      rw [Multiplies8, BitVec.setWidth_eq_extractLsb' (by decide)]
      exact isProduct_of_eq_product (n := 8) (by decide) (setAreg_areg s .a0 _)
    | a1 => cases hdst
  | mem m => exact ⟨_, product_isProduct _ _ signed (by decide), stored_write16 (by simpa using hm) _⟩

theorem multiply16_multiplies (hm : Memory.wf s.mem = true) (hdst : mulDest .w dst = true) (x : Word) :
    Multiplies16 signed x s (multiply16 signed x dst s) dst := by
  cases dst with
  | dreg r =>
    cases r with
    | r0lR0 => exact isProduct_of_eq_product (by decide) (setPair_pair s .r2r0 _)
    | r0hR1 => exact isProduct_of_eq_product (by decide) (setPair_pair s .r3r1 _)
    | r1lR2 | r1hR3 => cases hdst
  | areg a =>
    cases a with
    | a0 => exact isProduct_of_eq_product (by decide) (setApair_a1a0_apair s _)
    | a1 => cases hdst
  | mem m => exact ⟨_, product_isProduct _ _ signed (by decide), stored_write32 (by simpa using hm) _⟩

@[simp] theorem multiply8_pc (x : Byte) (dst : Operand) (s : State) : (multiply8 signed x dst s).pc = s.pc := by
  cases dst with
  | dreg r => cases r <;> simp [multiply8]
  | areg a => simp [multiply8]
  | mem m => simp [multiply8]

@[simp] theorem multiply16_pc (x : Word) (dst : Operand) (s : State) : (multiply16 signed x dst s).pc = s.pc := by
  cases dst with
  | dreg r => cases r <;> simp [multiply16]
  | areg a => cases a <;> simp [multiply16]
  | mem m => simp [multiply16]

/-- A multiplication of two operands. -/
theorem completes_of_multiplyG (hm : Memory.wf s.mem = true) (hexec : exec i s = retire i (multiplyG signed sz src dst s))
    (hwf : i.wellFormed = true) (hdst : mulDest sz dst = true) : Completes i s (MultipliesFrom signed sz src dst s) := by
  cases sz with
  | b =>
    exact completes_of_retire hexec hwf (by simp [multiplyG]) (multiply8_multiplies (by simpa using hm) hdst (readSrc8 s src).1).with_pc
  | w =>
    exact completes_of_retire hexec hwf (by simp [multiplyG]) (multiply16_multiplies (by simpa using hm) hdst (readSrc16 s src).1).with_pc

/-- A multiplication by an immediate. -/
theorem completes_of_multiplyImm (hm : Memory.wf s.mem = true) (hexec : exec i s = retire i (multiplyImm signed v dst s))
    (hwf : i.wellFormed = true) (hdst : mulDest v.size dst = true) : Completes i s (MultipliesImm signed v dst s) := by
  cases v with
  | b v => exact completes_of_retire hexec hwf (multiply8_pc v dst s) (multiply8_multiplies hm hdst v).with_pc
  | w v => exact completes_of_retire hexec hwf (multiply16_pc v dst s) (multiply16_multiplies hm hdst v).with_pc

end

/-- Settles O27: in each form the destination is one of the table of R407, and takes the exact product. -/
theorem multiplications : Obligations.Multiplications := by
  intro s hm
  refine ⟨fun sz src dst hwf => ?_, fun sz src dst hwf => ?_, fun v dst hwf => ?_, fun v dst hwf => ?_⟩
  · exact completes_of_multiplyG hm rfl hwf (Bool.and_eq_true_iff.1 hwf).2
  · exact completes_of_multiplyG hm rfl hwf (Bool.and_eq_true_iff.1 hwf).2
  · exact completes_of_multiplyImm hm rfl hwf hwf
  · exact completes_of_multiplyImm hm rfl hwf hwf

end Sys2Proof.Machine
end


section
/-! SUPPORT. The divisions (R400 to R406): for each of the three roundings the remainder is smaller than the divisor and has its sign, so that
quotient and remainder survive in the half width wherever the quotient fits (D22). -/

namespace Sys2Proof.Machine

/-! ### Quotient and remainder in exact arithmetic (R401, R403, R405) -/

theorem DivKind.value_eq_divInt (k : DivKind) {n : Nat} (x : BitVec n) : k.value x = divInt k x := by
  cases k <;> rfl

theorem DivKind.quotient_eq (k : DivKind) (a b : Int) : k.quotient a b = if k = .div then a.tdiv b else a.fdiv b := by
  cases k <;> rfl

theorem DivKind.fits_eq_representable (k : DivKind) (n : Nat) (i : Int) : k.fits n i = representable k n i := by
  cases k with
  | div | divx => simp only [DivKind.fits, representable, ← not_fitsSigned, Bool.not_not]
  | divu => simp [DivKind.fits, representable, fitsUnsigned]

/-- What is left of the dividend. -/
def DivKind.remainder (k : DivKind) (a b : Int) : Int := a - k.quotient a b * b

/-- The integer whose sign a remainder has: the dividend (DIV), the divisor (DIVX), or none (DIVU). -/
def DivKind.signSource (k : DivKind) (a b : Int) : Int :=
  match k with
  | .div => a
  | .divx => b
  | .divu => 1

theorem tmod_natAbs_lt (a : Int) {b : Int} (hb : b ≠ 0) : (a.tmod b).natAbs < b.natAbs := by
  rw [Int.natAbs_tmod]
  exact Nat.mod_lt _ (Int.natAbs_pos.2 hb)

/-- Rounded toward zero: the remainder has the sign of the dividend. -/
theorem tmod_sign (a b : Int) : a.tmod b = 0 ∨ (0 < a.tmod b ↔ 0 < a) := by
  have hsign := Int.sign_tmod a b
  split at hsign
  · exact .inl (Int.sign_eq_zero_iff_zero.1 hsign)
  · exact .inr (by rw [← Int.sign_eq_one_iff_pos, hsign, Int.sign_eq_one_iff_pos])

/-- Rounded toward minus infinity: the remainder lies between 0 and the divisor. -/
theorem fmod_between (a b : Int) : (0 < b → 0 ≤ a.fmod b ∧ a.fmod b < b) ∧ (b < 0 → b < a.fmod b ∧ a.fmod b ≤ 0) := by
  refine ⟨fun hpos => ⟨Int.fmod_nonneg_of_pos a hpos, Int.fmod_lt_of_pos a hpos⟩, fun hneg => ?_⟩
  have hflip : (-a).fmod (-b) = -a.fmod b := Int.neg_fmod_neg a b
  have hnonneg := Int.fmod_nonneg_of_pos (-a) (b := -b) (by omega)
  have hlt := Int.fmod_lt_of_pos (-a) (b := -b) (by omega)
  omega

/-- The remainder is smaller than the divisor, and its sign is that of its kind. -/
theorem DivKind.remainder_spec (k : DivKind) (a : Int) {b : Int} (hb : b ≠ 0) (hunsigned : k = .divu → 0 ≤ b) :
    (k.remainder a b).natAbs < b.natAbs ∧ (k.remainder a b = 0 ∨ (0 < k.remainder a b ↔ 0 < k.signSource a b)) := by
  have hbetween := fmod_between a b
  cases k with
  | div =>
    have htmod : DivKind.remainder .div a b = a.tmod b := by rw [Int.tmod_def, Int.mul_comm]; rfl
    rw [htmod]
    exact ⟨tmod_natAbs_lt a hb, tmod_sign a b⟩
  | divx =>
    have hfmod : DivKind.remainder .divx a b = a.fmod b := by rw [Int.fmod_def, Int.mul_comm]; rfl
    rw [hfmod, DivKind.signSource]
    omega
  | divu =>
    have hfmod : DivKind.remainder .divu a b = a.fmod b := by rw [Int.fmod_def, Int.mul_comm]; rfl
    have hnonneg := hunsigned rfl
    rw [hfmod, DivKind.signSource]
    omega

/-! ### Integers in a register (D22) -/

section
variable {k : DivKind} {n : Nat} {i : Int}

theorem representable_signed_iff : (!outsideSigned n i) = true ↔ -(2 ^ (n - 1) : Int) ≤ i ∧ i < 2 ^ (n - 1) := by
  simp only [outsideSigned, Bool.not_eq_true', decide_eq_false_iff_not]
  omega

theorem toInt_ofInt_of_not_outside (hn : 0 < n) (h : (!outsideSigned n i) = true) : (BitVec.ofInt n i).toInt = i := by
  obtain ⟨hlower, hupper⟩ := representable_signed_iff.1 h
  exact BitVec.toInt_ofInt_eq_self hn hlower hupper

/-- An integer that fits is what its pattern stands for. -/
theorem divInt_ofInt (hn : 0 < n) (h : representable k n i = true) : divInt k (BitVec.ofInt n i) = i := by
  cases k with
  | div | divx => exact toInt_ofInt_of_not_outside hn h
  | divu =>
    obtain ⟨hnonneg, hlt⟩ := of_decide_eq_true h
    exact (toNat_ofInt_eq_emod n i).trans (Int.emod_eq_of_lt hnonneg hlt)

theorem divInt_divu_nonneg (x : BitVec n) : k = .divu → 0 ≤ divInt k x := by
  rintro rfl
  exact Int.natCast_nonneg x.toNat

/-- A remainder fits wherever its divisor does. -/
theorem remainder_representable {x : BitVec n} {a : Int} (hx : divInt k x ≠ 0) : representable k n (k.remainder a (divInt k x)) = true := by
  obtain ⟨hsmall, hsign⟩ := k.remainder_spec a hx (divInt_divu_nonneg x)
  cases k with
  | div | divx =>
    have hlower := x.le_toInt
    have hupper := x.toInt_lt
    refine representable_signed_iff.2 ?_
    simp only [divInt] at hsmall ⊢
    omega
  | divu =>
    have hlt : (x.toNat : Int) < 2 ^ n := by exact_mod_cast x.isLt
    refine decide_eq_true ?_
    simp only [divInt, DivKind.signSource] at hsmall hsign ⊢
    omega

end

/-! ### What a division answers (R400) -/

section
variable {k : DivKind} {n : Nat} {a b q r : Int} {x : BitVec n}

theorem divide_of_fits (hb : b ≠ 0) (hfits : representable k n (k.quotient a b) = true) :
    divide k n a b = some (k.quotient a b, k.remainder a b) := by
  rw [divide, if_neg hb, DivKind.fits_eq_representable, if_pos hfits]
  rfl

theorem divide_eq_none_iff : divide k n a b = none ↔ b = 0 ∨ representable k n (k.quotient a b) = false := by
  constructor
  · intro hnone
    by_contra! hsome
    cases hnone.symm.trans (divide_of_fits hsome.1 (by simpa using hsome.2))
  · rintro (hb | hfits)
    · rw [divide, if_pos hb]
    · rw [divide, DivKind.fits_eq_representable, hfits, if_neg Bool.false_ne_true, ite_self]

/-- The statement's words about a division, in those above. -/
theorem quotient_iff {o : Bool} : Quotient k n a b q r o ↔
    (o = true ↔ divide k n a b = none) ∧
    (o = false → a = q * b + r ∧ r.natAbs < b.natAbs ∧ (r = 0 ∨ (0 < r ↔ 0 < k.signSource a b))) := by
  rw [divide_eq_none_iff]
  cases k <;> exact Iff.rfl

/-- O is set, and quotient and remainder may be anything. -/
theorem quotient_of_divide_none (h : divide k n a b = none) : Quotient k n a b q r true :=
  quotient_iff.2 ⟨by simp [h], nofun⟩

/-- O is clear, and the two halves of the result stand for quotient and remainder. -/
theorem quotient_of_divide_some (hn : 0 < n) (h : divide k n a (divInt k x) = some (q, r)) :
    Quotient k n a (divInt k x) (divInt k (BitVec.ofInt n q)) (divInt k (BitVec.ofInt n r)) false := by
  have hdefined : ¬(divInt k x = 0 ∨ representable k n (k.quotient a (divInt k x)) = false) := by
    rw [← divide_eq_none_iff, h]
    nofun
  obtain ⟨hx, hfits⟩ := not_or.1 hdefined
  rw [Bool.not_eq_false] at hfits
  obtain ⟨rfl, rfl⟩ := Prod.mk.inj (Option.some.inj (h.symm.trans (divide_of_fits hx hfits)))
  rw [divInt_ofInt hn hfits, divInt_ofInt hn (remainder_representable hx), quotient_iff, h]
  refine ⟨by simp, fun _ => ⟨?_, k.remainder_spec a hx (divInt_divu_nonneg x)⟩⟩
  rw [DivKind.remainder, add_sub_cancel]

end

/-! ### DIV, DIVX, DIVU -/

section
variable {k : DivKind} {s : State} {sz : Size} {src : Operand} {v : Imm} {i : Instr}

/-- R0 written in two halves (R21). -/
theorem setWord_r0_halves (s : State) (h l : Byte) :
    (s.setWord .r0lR0 (h ++ l)).byte .r0lR0 = l ∧ (s.setWord .r0lR0 (h ++ l)).byte .r0hR1 = h := by
  simp only [State.setWord, State.byte, setBank_bank, loByte_append, hiByte_append, and_self]

/-- R2R0 written in two halves (R22). -/
theorem setPair_r2r0_halves (s : State) (h l : Word) :
    (s.setPair .r2r0 (h ++ l)).word .r0lR0 = l ∧ (s.setPair .r2r0 (h ++ l)).word .r1lR2 = h := by
  simp only [State.setPair, State.word, setBank_bank]
  exact ⟨BitVec.extractLsb'_append_eq_right, BitVec.extractLsb'_append_eq_left⟩

theorem divide8_divides (x : Byte) : Divides8 k x s (divide8 k x s) := by
  rw [divide8, DivKind.value_eq_divInt, DivKind.value_eq_divInt]
  split
  · next q r hdivide =>
    obtain ⟨hlow, hhigh⟩ := setWord_r0_halves s (BitVec.ofInt 8 r) (BitVec.ofInt 8 q)
    rw [Divides8, setFlg_byte _ _ (by simp), setFlg_byte _ _ (by simp), hlow, hhigh]
    exact quotient_of_divide_some (by decide) hdivide
  · next hdivide => exact quotient_of_divide_none hdivide

theorem divide16_divides (x : Word) : Divides16 k x s (divide16 k x s) := by
  rw [divide16, DivKind.value_eq_divInt, DivKind.value_eq_divInt]
  split
  · next q r hdivide =>
    obtain ⟨hlow, hhigh⟩ := setPair_r2r0_halves s (BitVec.ofInt 16 r) (BitVec.ofInt 16 q)
    rw [Divides16, setFlg_word _ _ (by simp), setFlg_word _ _ (by simp), hlow, hhigh]
    exact quotient_of_divide_some (by decide) hdivide
  · next hdivide => exact quotient_of_divide_none hdivide

@[simp] theorem divide8_pc (x : Byte) : (divide8 k x s).pc = s.pc := by
  unfold divide8
  split <;> simp

@[simp] theorem divide16_pc (x : Word) : (divide16 k x s).pc = s.pc := by
  unfold divide16
  split <;> simp

/-- A division by an operand. -/
theorem completes_of_divideG (hexec : exec i s = retire i (divideG k sz src s)) (hwf : i.wellFormed = true) :
    Completes i s (DividesFrom k sz src s) := by
  cases sz with
  | b => exact completes_of_retire hexec hwf (by simp [divideG]) (divide8_divides (readSrc8 s src).1)
  | w => exact completes_of_retire hexec hwf (by simp [divideG]) (divide16_divides (readSrc16 s src).1)

/-- A division by an immediate. -/
theorem completes_of_divideImm (hexec : exec i s = retire i (divideImm k v s)) (hwf : i.wellFormed = true) :
    Completes i s (DividesImm k v s) := by
  cases v with
  | b v => exact completes_of_retire hexec hwf (divide8_pc v) (divide8_divides v)
  | w v => exact completes_of_retire hexec hwf (divide16_pc v) (divide16_divides v)

end

/-- Settles O28: each form divides with the rounding of its kind. -/
theorem divisions : Obligations.Divisions := by
  intro s
  refine ⟨fun sz src => ?_, fun sz src => ?_, fun sz src => ?_, fun v => ?_, fun v => ?_, fun v => ?_⟩
  · exact completes_of_divideG rfl rfl
  · exact completes_of_divideG rfl rfl
  · exact completes_of_divideG rfl rfl
  · exact completes_of_divideImm rfl rfl
  · exact completes_of_divideImm rfl rfl
  · exact completes_of_divideImm rfl rfl

end Sys2Proof.Machine
end


section
/-! SUPPORT. RMPA (R412): one sum of products, what a sum in range leaves, what one out of range leaves, and how the instruction goes on. -/

namespace Sys2Proof.Machine

/-! ### The accumulator (R412) -/

section
variable {sz : Size} {s t : State}

/-- The accumulator is all in the selected bank (R26). -/
theorem accumulator_congr (h : t.bank = s.bank) : accumulator sz t = accumulator sz s := by
  cases sz <;> simp only [accumulator, State.word, h]

@[simp] theorem accumulator_setAreg (a : AReg) (v : Word) : accumulator sz (s.setAreg a v) = accumulator sz s := by
  cases sz <;> simp only [accumulator, setAreg_word]

@[simp] theorem accumulator_setWord_r3 (v : Word) : accumulator sz (s.setWord .r1hR3 v) = accumulator sz s := by
  cases sz <;> simp only [accumulator, setWord_word_ne _ _ _ _ (show DReg.r0lR0 ≠ .r1hR3 by decide),
    setWord_word_ne _ _ _ _ (show DReg.r1lR2 ≠ .r1hR3 by decide)]

/-- A sum is stored modulo the width of the accumulator. -/
theorem accumulator_setAccumulator (sum : Int) : accumulator sz (setAccumulator sz sum s) = sum.bmod (2 ^ (2 * sz.bits)) := by
  cases sz with
  | b => exact (congrArg BitVec.toInt (setWord_word s .r0lR0 _)).trans (BitVec.toInt_ofInt sum)
  | w => exact (congrArg BitVec.toInt (setPair_pair s .r2r0 _)).trans (BitVec.toInt_ofInt sum)

/-- A sum in range is stored as it is. -/
theorem bmod_of_not_outside {sum : Int} (h : outsideSigned (2 * sz.bits) sum = false) : sum.bmod (2 ^ (2 * sz.bits)) = sum := by
  have hbits : 0 < 2 * sz.bits := by cases sz <;> decide
  rw [← BitVec.toInt_ofInt]
  exact toInt_ofInt_of_not_outside hbits (by simpa using h)

@[simp] theorem setAccumulator_pc (sum : Int) : (setAccumulator sz sum s).pc = s.pc := by
  cases sz <;> simp [setAccumulator]

/-! ### One sum (R412) -/

/-- The sum after the next product of RMPA. -/
def nextSum (sz : Size) (s : State) : Int := accumulator sz s + (factors sz s).1 * (factors sz s).2

theorem rmpaSum_fst : (rmpaSum sz s).1 = nextSum sz s := by
  cases sz <;> rfl

@[simp] theorem rmpaSum_snd_pc : (rmpaSum sz s).2.pc = s.pc := by
  cases sz <;> simp [rmpaSum]

/-- The state after a sum in range, FLG and PC apart. -/
def sumStep (sz : Size) (s : State) : State :=
  (((setAccumulator sz (nextSum sz s) (rmpaSum sz s).2).setAreg .a0 (s.areg .a0 + elementSize sz)).setAreg .a1
    (s.areg .a1 + elementSize sz)).setWord .r1hR3 (s.word .r1hR3 - 1)

/-- The state after a sum out of range: A0, A1 and R3 are drawn (I5). -/
def overflowStep (sz : Size) (s : State) : State :=
  let v := draw (setAccumulator sz (nextSum sz s) (rmpaSum sz s).2)
  let w := draw v.2
  (((w.2.setAreg .a0 (v.1.extractLsb' 0 16)).setAreg .a1 (v.1.extractLsb' 16 16)).setWord .r1hR3 (w.1.extractLsb' 0 16)).setFlg
    { s.flg with o := true }

/-- RMPA in its four cases. -/
theorem execRmpa_eq : execRmpa sz s =
    if s.word .r1hR3 = 0 then retire (.rmpa sz) s
    else if fitsSigned (2 * sz.bits) (nextSum sz s) then
      if s.word .r1hR3 = 1 then retire (.rmpa sz) ((sumStep sz s).setFlg { s.flg with o := false })
      else retireAt (.rmpa sz) s.pc (sumStep sz s)
    else retire (.rmpa sz) (overflowStep sz s) := by
  rw [execRmpa, overflowStep, sumStep, ← rmpaSum_fst]

theorem sumStep_accumulator (h : outsideSigned (2 * sz.bits) (nextSum sz s) = false) : accumulator sz (sumStep sz s) = nextSum sz s := by
  rw [sumStep, accumulator_setWord_r3, accumulator_setAreg, accumulator_setAreg, accumulator_setAccumulator, bmod_of_not_outside h]

theorem sumStep_word_r3 : (sumStep sz s).word .r1hR3 = s.word .r1hR3 - 1 := setWord_word ..

theorem sumStep_areg (a : AReg) : (sumStep sz s).areg a = s.areg a + elementSize sz := by
  cases a <;> simp [sumStep, setAreg_areg_ne]

@[simp] theorem sumStep_flg : (sumStep sz s).flg = s.flg := by
  simp [sumStep]

@[simp] theorem sumStep_pc : (sumStep sz s).pc = s.pc := by
  simp [sumStep]

theorem overflowStep_accumulator : accumulator sz (overflowStep sz s) = (nextSum sz s).bmod (2 ^ (2 * sz.bits)) := by
  rw [overflowStep, accumulator_congr (setFlg_bank _ _ (by simp)), accumulator_setWord_r3, accumulator_setAreg, accumulator_setAreg]
  exact accumulator_setAccumulator _

theorem overflowStep_pc : (overflowStep sz s).pc = s.pc := by
  simp [overflowStep]

theorem exec_rmpa_zero (h0 : s.word .r1hR3 = 0) : exec (.rmpa sz) s = .next { s with pc := s.nextPc (.rmpa sz) } := by
  have hexec : exec (.rmpa sz) s = retire (.rmpa sz) s := execRmpa_eq.trans (if_pos h0)
  rw [hexec, retire_selectable _ _ rfl]

/-- FLG and PC after a sum in range: the last one clears O and ends the instruction (R412, R503). -/
theorem exec_rmpa_inRange (h0 : s.word .r1hR3 ≠ 0) (h : outsideSigned (2 * sz.bits) (nextSum sz s) = false) :
    exec (.rmpa sz) s = .next { (sumStep sz s).setFlg (if s.word .r1hR3 = 1 then { s.flg with o := false } else s.flg) with
      pc := if s.word .r1hR3 = 1 then s.nextPc (.rmpa sz) else s.pc } := by
  have hflg : (sumStep sz s).setFlg s.flg = sumStep sz s := by rw [← sumStep_flg]; rfl
  have hfits : fitsSigned (2 * sz.bits) (nextSum sz s) = true := by simpa [← not_fitsSigned] using h
  refine execRmpa_eq.trans ?_
  rw [if_neg h0, if_pos hfits]
  split
  · rw [retire_selectable _ _ rfl, State.nextPc, setFlg_pc, sumStep_pc]
    rfl
  · rw [retireAt_selectable _ _ _ rfl, hflg]

theorem completes_of_rmpa_overflow (h0 : s.word .r1hR3 ≠ 0) (h : outsideSigned (2 * sz.bits) (nextSum sz s) = true) :
    Completes (.rmpa sz) s fun t => accumulator sz t = (nextSum sz s).bmod (2 ^ (2 * sz.bits)) ∧ t.flg = { s.flg with o := true } := by
  have hexec : exec (.rmpa sz) s = retire (.rmpa sz) (overflowStep sz s) := by
    refine execRmpa_eq.trans ?_
    rw [if_neg h0, if_neg (by simpa [← not_fitsSigned] using h)]
  exact completes_of_retire hexec rfl overflowStep_pc ⟨(accumulator_congr rfl).trans overflowStep_accumulator, rfl⟩

end

/-- Settles O29: the three ways of one step of RMPA, no sum, a sum in range, and a sum out of range. -/
theorem sumOfProducts : Obligations.SumOfProducts := by
  intro sz s sum
  refine ⟨exec_rmpa_zero, fun h0 h => ?_, completes_of_rmpa_overflow⟩
  have hb : (if s.word .r1hR3 = 1 then { s.flg with o := false } else s.flg).b = (sumStep sz s).flg.b := by
    rw [sumStep_flg]
    split <;> rfl
  refine ⟨_, exec_rmpa_inRange h0 h, ?_, ⟨?_, rfl⟩, ?_, ?_, rfl⟩
  · exact (accumulator_congr (setFlg_bank _ _ hb)).trans (sumStep_accumulator h)
  · exact (setFlg_word _ _ hb _).trans sumStep_word_r3
  · exact (setFlg_areg _ _ hb _).trans (sumStep_areg .a0)
  · exact (setFlg_areg _ _ hb _).trans (sumStep_areg .a1)

end Sys2Proof.Machine
end


section
/-! SUPPORT. The logical instructions (R430 to R444): the model's operations on words against the operation on each bit, and from it the statement
about the instructions. -/

namespace Sys2Proof.Machine

/-! ### Result and flags (R128) -/

/-- A result given bit by bit, with S and Z of it, is that of the operation on bits. -/
theorem bitwise_of_getLsbD {op : Bool → Bool → Bool} {n : Nat} {d x r : BitVec n} (f : Flg)
    (hbit : ∀ k, k < n → r.getLsbD k = op (x.getLsbD k) (d.getLsbD k)) : Bitwise op n f d x r (setSZ f r) :=
  ⟨hbit, setSZ_eq_signZero f r⟩

theorem opAnd_obeys : Binary.Obeys opAnd (Bitwise and) 1 := fun _ _ f _ _ => bitwise_of_getLsbD f fun _ _ => BitVec.getLsbD_and
theorem opOr_obeys : Binary.Obeys opOr (Bitwise or) 1 := fun _ _ f _ _ => bitwise_of_getLsbD f fun _ _ => BitVec.getLsbD_or
theorem opXor_obeys : Binary.Obeys opXor (Bitwise xor) 1 := fun _ _ f _ _ => bitwise_of_getLsbD f fun _ _ => BitVec.getLsbD_xor

theorem opNot_obeys : Binary.Obeys opNot (Bitwise fun _ d => !d) 1 :=
  fun _ _ f _ _ => bitwise_of_getLsbD f fun k hk =>
    BitVec.getLsbD_not.trans (by rw [decide_eq_true hk, Bool.true_and])

/-- The result that TST takes its flags from is the conjunction, which AND would store (R441, R442). -/
theorem opTst_obeys : Compare.Obeys opTst (Bitwise and) := fun n hn f d x => ⟨x &&& d, opAnd_obeys n hn f d x⟩

/-! ### AND, OR, XOR, NOT and TST (R430 to R444) -/

/-- Settles O24, form by form: AND, OR, XOR and NOT are updates by an operation on each bit, TST is a comparison by the conjunction. -/
theorem logicalOperations : Obligations.LogicalOperations := by
  intro s hm
  refine ⟨fun sz src dst hwf => ⟨?_, ?_, ?_, ?_⟩, fun v dst => ⟨?_, ?_, ?_, ?_⟩, fun v d => ⟨?_, ?_⟩, fun h x => ⟨?_, ?_⟩,
    fun sz dst hwf => ?_, fun d => ?_⟩
  · exact completes_of_updateG hm opAnd_keeps (by decide) opAnd_obeys rfl hwf
  · exact completes_of_updateG hm opOr_keeps (by decide) opOr_obeys rfl hwf
  · exact completes_of_updateG hm opXor_keeps (by decide) opXor_obeys rfl hwf
  · exact completes_of_compareG opTst_obeys rfl hwf
  · exact completes_of_updateImm hm opAnd_keeps (by decide) opAnd_obeys rfl rfl
  · exact completes_of_updateImm hm opOr_keeps (by decide) opOr_obeys rfl rfl
  · exact completes_of_updateImm hm opXor_keeps (by decide) opXor_obeys rfl rfl
  · exact completes_of_compareImm opTst_obeys rfl rfl
  · exact completes_of_updateImm (v := .b v) hm opAnd_keeps (by decide) opAnd_obeys rfl rfl
  · exact completes_of_updateImm (v := .b v) hm opOr_keeps (by decide) opOr_obeys rfl rfl
  · exact completes_of_updateG hm opAnd_keeps (by decide) opAnd_obeys rfl rfl
  · exact completes_of_updateG hm opOr_keeps (by decide) opOr_obeys rfl rfl
  · exact completes_of_updateOne hm opNot_keeps (by decide) (opNot_obeys.mono (Size.one_le_bits sz)) rfl hwf
  · exact completes_of_updateOne hm opNot_keeps (by decide) (opNot_obeys.mono (by decide)) rfl rfl

end Sys2Proof.Machine
end


section
/-! SUPPORT. The return address on the stack (R460): the bytes that `pushRet` leaves, and that `popRet` takes them back. -/

namespace Sys2Proof.Machine

/-! ### Bytes of a word (R63) -/

theorem append_toNat {m n : Nat} (x : BitVec m) (y : BitVec n) : (x ++ y).toNat = x.toNat * 2 ^ n + y.toNat := by
  rw [BitVec.toNat_append, ← Nat.shiftLeft_add_eq_or_of_lt y.isLt, Nat.shiftLeft_eq]

theorem extractLow_eq_ofNat {n : Nat} (k : Nat) (x : BitVec n) : x.extractLsb' 0 k = BitVec.ofNat k x.toNat := rfl

/-! The three bytes of an address, as `pushRet` cuts them, in plain arithmetic. -/

theorem loByte_extractLow (a : Addr) : loByte (a.extractLsb' 0 16) = BitVec.ofNat 8 a.toNat := by
  apply BitVec.eq_of_toNat_eq
  simp only [loByte, BitVec.extractLsb'_toNat, BitVec.toNat_ofNat, Nat.shiftRight_zero]
  omega

theorem hiByte_extractLow (a : Addr) : hiByte (a.extractLsb' 0 16) = BitVec.ofNat 8 (a.toNat / 256) := by
  apply BitVec.eq_of_toNat_eq
  simp only [hiByte, BitVec.extractLsb'_toNat, BitVec.toNat_ofNat, Nat.shiftRight_eq_div_pow]
  omega

theorem zeroExtend_extractTop (a : Addr) : (a.extractLsb' 16 4).zeroExtend 8 = BitVec.ofNat 8 (a.toNat / 65536) := by
  apply BitVec.eq_of_toNat_eq
  simp only [BitVec.toNat_setWidth, BitVec.extractLsb'_toNat, BitVec.toNat_ofNat, Nat.shiftRight_eq_div_pow]
  omega

/-! ### The stack pointer and data reads -/

section
variable (s : State)

@[simp] theorem setSp_setSp (v w : Word) : (s.setSp v).setSp w = s.setSp w := by
  unfold State.setSp
  split <;> simp_all

theorem setSp_self : s.setSp s.sp = s := by
  unfold State.setSp State.sp
  split <;> rfl

/-- No data read looks at the stack pointer. -/
theorem setSp_afterRead (v : Word) (a : Addr) : (s.setSp v).afterRead a = (s.afterRead a).setSp v := by
  have hcancel : (s.setSp v).cancelWinner = s.cancelWinner.setSp v := by
    have hwinner : (s.setSp v).maskableWinner = s.maskableWinner := by
      unfold State.setSp
      split <;> rfl
    unfold State.cancelWinner
    rw [hwinner]
    cases s.maskableWinner with
    | none => rfl
    | some n => cases hu : s.flg.u <;> simp [State.setSp, hu, State.clearIr]
  have hdevice (t : State) (x : PlatformAccess) : (t.setSp v).deviceAccess x = (t.deviceAccess x).setSp v := by
    cases hu : t.flg.u <;> simp [State.setSp, hu, State.deviceAccess]
  unfold State.afterRead
  rw [setSp_layout, hcancel, ← apply_ite (State.setSp · v), hdevice, ← apply_ite (State.setSp · v)]

theorem setSp_readByte (v : Word) (a : Addr) : readByte (s.setSp v) a = ((readByte s a).1, (readByte s a).2.setSp v) :=
  Prod.ext (readByte_fst_congr (by simp) (by simp) (by simp) a) (setSp_afterRead s v a)

end

/-! ### `pushRet` and `popRet` (R460) -/

section
variable (s : State) (a : Addr)

/-- The word goes two below the byte, and so three below the old SP. -/
theorem pushRet_eq : pushRet s a = write16 ((push8 s (BitVec.ofNat 8 (a.toNat / 65536))).setSp (s.sp - 3)) (zext20 (s.sp - 3))
    (a.extractLsb' 0 16) := by
  have hsp : s.sp - 1 - 2 = s.sp - 3 := by bv_omega
  rw [pushRet, push16, push8_sp, hsp, zeroExtend_extractTop]

theorem pushRet_platformLog : (pushRet s a).platformLog =
    deviceWrites s.layout (zext20 (s.sp - 3)) [BitVec.ofNat 8 a.toNat, BitVec.ofNat 8 (a.toNat / 256)] ++
      deviceWrites s.layout (zext20 (s.sp - 1)) [BitVec.ofNat 8 (a.toNat / 65536)] ++ s.platformLog := by
  rw [pushRet_eq, write16_platformLog, setSp_platformLog, push8, writeByte_platformLog]
  simp [wordBytes, loByte_extractLow, hiByte_extractLow]

/-- The byte with bits 19:16 lies above the word, wherever the 16-bit SP wraps. -/
theorem return_bytes_apart (p : Word) : zext20 (p - 1) ≠ zext20 (p - 3) ∧ zext20 (p - 1) ≠ zext20 (p - 3) + 1 := by
  have htop : p - 1 = p - 3 + 2 := by bv_omega
  rw [htop]
  generalize p - 3 = q
  constructor <;> simp only [zext20] <;> bv_omega

theorem pushRet_returnBelow (hm : Memory.wf s.mem = true) : ReturnBelow (pushRet s a) s.sp a := by
  have hm' : Memory.wf ((push8 s (BitVec.ofNat 8 (a.toNat / 65536))).setSp (s.sp - 3)).mem = true := by
    simpa using push8_wf s _ hm
  obtain ⟨hlo, hhi⟩ := return_bytes_apart s.sp
  simp only [ReturnBelow, MemIs, pushRet_layout]
  rw [pushRet_eq]
  refine ⟨fun hw => ?_, fun hw => ?_, fun hw => ?_⟩
  · rw [write16_peek_lo _ _ _ hm' (by simpa using hw), loByte_extractLow]
  · rw [write16_peek_hi _ _ _ hm' (by simpa using hw), hiByte_extractLow]
  · rw [write16_peek_ne _ _ _ _ hlo hhi, setSp_peek, push8, writeByte_peek_same _ _ _ (by simpa using hm) (by simpa using hw)]

/-- The word is read at SP and the byte two above it; SP moves up by three. -/
theorem popRet_eq : popRet s =
    let w := read16 s (zext20 s.sp)
    let h := readByte w.2 (zext20 (s.sp + 2))
    (h.1.extractLsb' 0 4 ++ w.1, h.2.setSp (s.sp + 3)) := by
  have hsp : s.sp + 2 + 1 = s.sp + 3 := by bv_omega
  simp only [popRet, pop16, pop8, setSp_sp, setSp_readByte, setSp_setSp, hsp]

theorem popRet_fst_toNat : (popRet s).1.toNat = (read16 s (zext20 s.sp)).1.toNat +
    65536 * ((readByte (read16 s (zext20 s.sp)).2 (zext20 (s.sp + 2))).1.toNat % 16) := by
  rw [popRet_eq, append_toNat, extractLow_eq_ofNat, BitVec.toNat_ofNat]
  omega

@[simp] theorem popRet_snd_sp : (popRet s).2.sp = s.sp + 3 := by
  rw [popRet_eq]
  exact setSp_sp ..

theorem read16_fst_toNat (hlo : s.layout.inImage a = true) (hhi : s.layout.inImage (a + 1) = true) :
    (read16 s a).1.toNat = (s.peek a).toNat + 256 * (s.peek (a + 1)).toNat := by
  rw [read16_fst s a hlo hhi, append_toNat]
  omega

/-- A return address that lies in plain memory. -/
theorem popRet_fst_plain (hlo : s.layout.inImage (zext20 s.sp) = true) (hmid : s.layout.inImage (zext20 s.sp + 1) = true)
    (htop : s.layout.inImage (zext20 (s.sp + 2)) = true) : (popRet s).1.toNat =
      (s.peek (zext20 s.sp)).toNat + 256 * (s.peek (zext20 s.sp + 1)).toNat + 65536 * ((s.peek (zext20 (s.sp + 2))).toNat % 16) := by
  rw [popRet_fst_toNat, read16_fst_toNat s _ hlo hmid, readByte_fst _ _ (by simpa using htop)]
  simp

theorem forall_mem_returnBelow {p : Word} {P : Addr → Prop} :
    (∀ b ∈ returnBelow p, P b) ↔ P (zext20 (p - 1)) ∧ P (zext20 (p - 3)) ∧ P (zext20 (p - 3) + 1) := by
  simp [returnBelow, mem_bytesFrom_two]

/-- A return address that lies three above SP on a stack in writable memory is the one popped. -/
theorem popRet_of_returnBelow {s : State} {p : Word} {ret : Addr} (hsp : s.sp = p - 3) (hbelow : ReturnBelow s p ret)
    (hw : ∀ b ∈ returnBelow p, s.layout.isWritable b = true) : (popRet s).1 = ret := by
  have htop : s.sp + 2 = p - 1 := by rw [hsp]; bv_omega
  obtain ⟨hwtop, hwlo, hwmid⟩ := forall_mem_returnBelow.1 hw
  obtain ⟨hlo, hmid, hhi⟩ := hbelow
  have hret := ret.isLt
  apply BitVec.eq_of_toNat_eq
  rw [popRet_fst_plain s, htop, hsp, hlo hwlo, hmid hwmid, hhi hwtop]
  · simp only [BitVec.toNat_ofNat]
    omega
  · rw [hsp]
    exact Layout.inImage_of_isWritable hwlo
  · rw [hsp]
    exact Layout.inImage_of_isWritable hwmid
  · rw [htop]
    exact Layout.inImage_of_isWritable hwtop

theorem popRet_pushRet (hm : Memory.wf s.mem = true) (hw : ∀ b ∈ returnBelow s.sp, s.layout.isWritable b = true) :
    (popRet (pushRet s a)).1 = a :=
  popRet_of_returnBelow (pushRet_sp s a) (pushRet_returnBelow s a hm) (by simpa using hw)

end

/-- Settles O44: what `pushRet` writes, what `popRet` reads, and that the one takes back the other. -/
theorem returnAddressHelpers : Obligations.ReturnAddressHelpers := by
  intro s a hm
  refine ⟨⟨pushRet_sp s a, pushRet_returnBelow s a hm, pushRet_platformLog s a⟩,
    ⟨popRet_fst_toNat s, congrArg Prod.snd (popRet_eq s)⟩, fun hw => ⟨popRet_pushRet s a hm hw, ?_⟩⟩
  rw [popRet_snd_sp, pushRet_sp]
  exact BitVec.sub_add_cancel ..

end Sys2Proof.Machine
end


section
/-! SUPPORT. Jump targets in plain arithmetic (R124), and from it the statements about the jumps (R461 to R478). -/

namespace Sys2Proof.Machine

/-! ### Targets -/

/-- A sum of addresses is taken modulo 2^20 (R29). -/
theorem add_ofInt_eq (a : Addr) (k : Int) : a + BitVec.ofInt 20 k = BitVec.ofInt 20 (a.toNat + k) := by
  rw [BitVec.ofInt_add, BitVec.ofInt_natCast, BitVec.ofNat_toNat, BitVec.setWidth_eq]

section
variable (s : State)

theorem relative_eq (base : Addr) {n : Nat} (d : BitVec n) :
    s.relative base d = BitVec.ofInt 20 (s.pc.toNat + base.toNat + d.toInt) := by
  rw [State.relative, BitVec.add_assoc, BitVec.signExtend, add_ofInt_eq, add_ofInt_eq, Int.add_assoc]

theorem relative_zero_eq {n : Nat} (d : BitVec n) : s.relative 0 d = BitVec.ofInt 20 (s.pc.toNat + d.toInt) := by
  have hzero : s.pc + 0 = s.pc := BitVec.add_zero s.pc
  rw [State.relative, hzero, BitVec.signExtend, add_ofInt_eq]

theorem nextPc_eq (i : Instr) : s.nextPc i = BitVec.ofInt 20 (s.pc.toNat + i.length) := by
  rw [State.nextPc, ← BitVec.ofInt_natCast, add_ofInt_eq]

/-- A jump taken or not. -/
theorem ite_relative_eq (taken : Bool) (base : Addr) {n : Nat} (d : BitVec n) (i : Instr) :
    (if taken then s.relative base d else s.nextPc i) =
      BitVec.ofInt 20 (if taken then s.pc.toNat + base.toNat + d.toInt else s.pc.toNat + i.length) := by
  cases taken with
  | true => exact relative_eq s base d
  | false => exact nextPc_eq s i

theorem jmpS_target_eq (d : BitVec 3) : s.pc + 2 + d.zeroExtend 20 = BitVec.ofInt 20 (s.pc.toNat + 2 + d.toNat) := by
  have hd : d.zeroExtend 20 = BitVec.ofInt 20 d.toNat := (BitVec.ofNat_toNat 20 d).symm.trans (BitVec.ofInt_natCast ..).symm
  have htwo : (2 : Addr) = BitVec.ofInt 20 2 := rfl
  rw [BitVec.add_assoc, hd, htwo, ← BitVec.ofInt_add, add_ofInt_eq, Int.add_assoc]

end

theorem ofInt_emod_eq_ofNat (k : Nat) : BitVec.ofInt 20 ((k : Int) % 2 ^ 20) = BitVec.ofNat 20 k := by
  apply BitVec.eq_of_toNat_eq
  rw [BitVec.toNat_ofInt, BitVec.toNat_ofNat]
  omega

/-! ### The special page table (R74) -/

section
variable (s : State) (n : Byte)

theorem specialPage_inImage (l : Layout) : l.inImage (0xFFFFE - BitVec.ofNat 20 (2 * n.toNat)) = true ∧
    l.inImage (0xFFFFE - BitVec.ofNat 20 (2 * n.toNat) + 1) = true := by
  have hn := n.isLt
  constructor <;> exact Layout.inImage_vectors l (by bv_omega)

/-- The table lies in the fixed vector area, so that reading it changes nothing. -/
@[simp] theorem specialPageTarget_snd : (specialPageTarget s n).2 = s := by
  obtain ⟨hlo, hhi⟩ := specialPage_inImage n s.layout
  rw [specialPageTarget, read16_snd, afterRead_plain s _ hlo, afterRead_plain s _ hhi]

theorem specialPageTarget_fst : (specialPageTarget s n).1 = BitVec.ofNat 20 (0xF0000 +
    (s.peek (0xFFFFE - BitVec.ofNat 20 (2 * n.toNat))).toNat + 256 * (s.peek (0xFFFFE - BitVec.ofNat 20 (2 * n.toNat) + 1)).toNat) := by
  obtain ⟨hlo, hhi⟩ := specialPage_inImage n s.layout
  have happend (w : Word) : (0xF#4 ++ w : Addr) = BitVec.ofNat 20 (0xF0000 + w.toNat) := by
    apply BitVec.eq_of_toNat_eq
    simp only [append_toNat, BitVec.toNat_ofNat]
    omega
  rw [specialPageTarget, happend, read16_fst_toNat s _ hlo hhi, ← Nat.add_assoc]

end

/-! ### The jumps without a destination (R465 to R478) -/

section
variable {i : Instr} {s u : State} {a b : Addr}

theorem completesAt_of_retireAt {P : State → Prop} (hexec : exec i s = retireAt i b u) (hwf : i.wellFormed = true) (hb : b = a)
    (hP : P { u with pc := b }) : CompletesAt i s a P :=
  ⟨_, hexec.trans (retireAt_selectable i b u hwf), hb, hP⟩

/-- A jump that changes nothing but PC. -/
theorem exec_of_jump (hexec : exec i s = retireAt i b s) (hwf : i.wellFormed = true) (hb : b = a) :
    exec i s = .next { s with pc := a } := by
  rw [hexec, retireAt_selectable i b s hwf, hb]

end

theorem exec_jmps (n : Byte) (s : State) : exec (.jmps n) s = retireAt (.jmps n) (specialPageTarget s n).1 s := by
  have hexec : exec (.jmps n) s = execJmps n s := rfl
  rw [hexec, execJmps, specialPageTarget_snd]

/-- Settles O42, form by form: the target in plain arithmetic. -/
theorem jumps : Obligations.Jumps := by
  intro s
  refine ⟨fun d => ?_, fun d => ?_, fun d => ?_, fun a => ?_, fun c d hwf => ?_, fun c d hwf => ?_, fun n hwf => ?_, fun r => ?_,
    fun a => ?_, fun m hwf => ?_, fun p => ?_, fun m hwf => ?_⟩
  · exact exec_of_jump rfl rfl (jmpS_target_eq s d)
  · exact exec_of_jump rfl rfl (relative_eq s 1 d)
  · exact exec_of_jump rfl rfl (relative_eq s 1 d)
  · exact exec_of_jump rfl rfl (by rw [BitVec.ofInt_natCast, BitVec.ofNat_toNat, BitVec.setWidth_eq])
  · exact exec_of_jump rfl hwf (ite_relative_eq s (condHolds c s.flg) 1 d (.jcndShort c d))
  · exact exec_of_jump rfl hwf (ite_relative_eq s (condHolds c s.flg) 2 d (.jcndLong c d))
  · exact exec_of_jump (exec_jmps n s) hwf ((specialPageTarget_fst s n).trans (BitVec.ofInt_natCast ..).symm)
  · exact exec_of_jump rfl rfl (relative_zero_eq s _)
  · exact exec_of_jump rfl rfl (relative_zero_eq s _)
  · exact completesAt_of_retireAt rfl hwf (relative_zero_eq s _) trivial
  · exact exec_of_jump rfl rfl (ofInt_emod_eq_ofNat _).symm
  · exact completesAt_of_retireAt rfl hwf (extractLow_eq_ofNat 20 _) trivial

/-! ### ADJNZ and SBJNZ (R461, R462) -/

theorem opAddQuiet_obeys : Binary.Obeys opAddQuiet AddsQuietly 1 := fun _ _ _ d x => ⟨BitVec.toNat_add d x, rfl⟩

/-- A sum with a sign-extended addend, as the jump tests it. -/
theorem add_signExtend_ne_zero {m n : Nat} (w : BitVec n) (x : BitVec m) :
    (w + x.signExtend n != 0) = true ↔ ((w.toNat : Int) + x.toInt) % 2 ^ n ≠ 0 := by
  have hsum : w + x.signExtend n = BitVec.ofInt n (w.toNat + x.toInt) := by
    rw [BitVec.ofInt_add, BitVec.ofInt_natCast, BitVec.ofNat_toNat, BitVec.setWidth_eq, BitVec.signExtend]
  rw [bne_iff_ne, ← toNat_ofInt_eq_emod, ← hsum, Ne, Ne, BitVec.toNat_eq, Int.natCast_eq_zero]
  rfl

/-- The addition is an immediate form (R108 a), and the jump looks at its sum. -/
theorem completesAt_of_adjustJump {i : Instr} {s : State} {sz : Size} {x : BitVec 4} {dst : Operand} {d : Byte} {sum : Int}
    (hm : Memory.wf s.mem = true) (hexec : exec i s = adjustJump i sz x dst d s) (hwf : i.wellFormed = true)
    (hsum : nonZeroSum sz x dst s = true ↔ sum ≠ 0) :
    CompletesAt i s (if sum ≠ 0 then BitVec.ofInt 20 (s.pc.toNat + 2 + d.toInt) else s.nextPc i)
      (UpdatesImm AddsQuietly (quick sz x) dst s) := by
  have hquick : updateQ opAddQuiet sz x dst s = updateImm opAddQuiet (quick sz x) dst s := by cases sz <;> rfl
  have htarget : (if nonZeroSum sz x dst s = true then s.relative 2 d else s.nextPc i) =
      if sum ≠ 0 then BitVec.ofInt 20 (s.pc.toNat + 2 + d.toInt) else s.nextPc i :=
    ite_congr (propext hsum) (fun _ => relative_eq s 2 d) fun _ => rfl
  rw [adjustJump, hquick] at hexec
  exact completesAt_of_retireAt hexec hwf htarget (updateImm_updates hm opAddQuiet_keeps (by decide) opAddQuiet_obeys _ dst).with_pc

/-- Settles O43: both add, SBJNZ the negative of its immediate, and jump on the same test. -/
theorem addAndJump : Obligations.AddAndJump := by
  intro s sz v dst d hm
  cases sz <;>
  exact ⟨fun hwf => completesAt_of_adjustJump hm rfl hwf (add_signExtend_ne_zero _ v),
    fun hwf => completesAt_of_adjustJump hm rfl hwf (add_signExtend_ne_zero _ (-v))⟩

end Sys2Proof.Machine
end


section
/-! SUPPORT. What the calls leave on the stack (R480 to R484), and that RTS comes back from every call (R485). -/

namespace Sys2Proof.Machine

/-! ### Data reads -/

/-- `r` is `s` after data reads: they change only what the platform sees and the requests it may clear (R71). -/
structure AfterReads (s r : State) : Prop where
  registers : r.regFile = s.regFile
  flags : r.flg = s.flg
  memory : r.mem = s.mem
  layout : r.layout = s.layout

section
variable {s r : State} {a : Addr}

theorem afterReads_refl (s : State) : AfterReads s s := ⟨rfl, rfl, rfl, rfl⟩

theorem AfterReads.afterRead (h : AfterReads s r) : AfterReads s (r.afterRead a) where
  registers := by simpa [State.regFile] using h.registers
  flags := by simpa using h.flags
  memory := by simpa using h.memory
  layout := by simpa using h.layout

theorem afterReads_readIndW (s : State) (x : IndW) : AfterReads s (readIndW s x).2 := by
  cases x with
  | dreg r => exact afterReads_refl s
  | areg a => exact afterReads_refl s
  | mem m => exact (afterReads_refl s).afterRead.afterRead

theorem afterReads_readIndA (s : State) (x : IndA) : AfterReads s (readIndA s x).2 := by
  cases x with
  | pair p => exact afterReads_refl s
  | mem m => exact (afterReads_refl s).afterRead.afterRead.afterRead

theorem AfterReads.sp (h : AfterReads s r) : r.sp = s.sp := by
  have hregs := h.registers
  simp only [State.regFile, Prod.mk.injEq] at hregs
  obtain ⟨-, -, -, husp, hisp, -⟩ := hregs
  simp only [State.sp, h.flags, husp, hisp]

end

/-! ### The calls (R480 to R484) -/

/-- What a call leaves: the address of the next instruction below the old SP. -/
def Called (s : State) (i : Instr) (t : State) : Prop := t.sp = s.sp - 3 ∧ ReturnBelow t s.sp (s.nextPc i) ∧ t.flg = s.flg

section
variable {i : Instr} {s r : State} {a b : Addr}

/-- A call pushes the address of the next instruction after its data reads. -/
theorem pushRet_called (hm : Memory.wf s.mem = true) (hr : AfterReads s r) : Called s i { pushRet r (s.nextPc i) with pc := b } := by
  have hbelow := pushRet_returnBelow r (s.nextPc i) (by rwa [hr.memory])
  rw [hr.sp] at hbelow
  have hsp : (pushRet r (s.nextPc i)).sp = s.sp - 3 := by rw [pushRet_sp, hr.sp]
  exact ⟨hsp, hbelow, (pushRet_flg ..).trans hr.flags⟩

theorem completesAt_of_call (hm : Memory.wf s.mem = true) (hexec : exec i s = retireAt i b (pushRet r (s.nextPc i)))
    (hwf : i.wellFormed = true) (hr : AfterReads s r) (hb : b = a) : CompletesAt i s a (Called s i) :=
  completesAt_of_retireAt hexec hwf hb (pushRet_called hm hr)

end

/-- No stack reaches the special page table: a call reads it as it was before the push. -/
theorem specialPageTarget_pushRet_fst (s : State) (n : Byte) (ret : Addr) : (specialPageTarget (pushRet s ret) n).1 = (specialPageTarget s n).1 := by
  have hapart (b : Addr) (hb : 0xFFE00 ≤ b.toNat) : (pushRet s ret).peek b = s.peek b := by
    have hne (w : Word) : b ≠ zext20 w ∧ b ≠ zext20 w + 1 := by
      have hw := w.isLt
      simp only [zext20]
      constructor <;> bv_omega
    apply pushRet_peek_outside
    simp only [returnBelow, List.mem_cons, mem_bytesFrom_two, not_or]
    obtain ⟨htop, -⟩ := hne (s.sp - 1)
    obtain ⟨hlow, hmid⟩ := hne (s.sp - 3)
    exact ⟨htop, hlow, hmid⟩
  have hn := n.isLt
  rw [specialPageTarget_fst, specialPageTarget_fst, hapart _ (by bv_omega), hapart _ (by bv_omega)]

/-- The return address is pushed before the table is read (R484). -/
theorem exec_jsrs (n : Byte) (s : State) :
    exec (.jsrs n) s = retireAt (.jsrs n) (specialPageTarget s n).1 (pushRet s (s.nextPc (.jsrs n))) := by
  have hexec : exec (.jsrs n) s = execJsrs n s := rfl
  rw [hexec, execJsrs, specialPageTarget_pushRet_fst, specialPageTarget_snd]

/-- Settles O45, form by form: where the operand is read, that the return address is pushed, and the target in plain arithmetic. -/
theorem calls : Obligations.Calls := by
  intro s hm
  refine ⟨fun d => ?_, fun a => ?_, fun n hwf => ?_, fun r => ?_, fun a => ?_, fun m hwf => ?_, fun p => ?_, fun m hwf => ?_⟩
  · exact completesAt_of_call hm rfl rfl (afterReads_refl s) (relative_eq s 1 d)
  · exact completesAt_of_call hm rfl rfl (afterReads_refl s) rfl
  · exact completesAt_of_call hm (exec_jsrs n s) hwf (afterReads_refl s) (specialPageTarget_fst s n)
  · exact completesAt_of_call hm rfl rfl (afterReads_readIndW s (.dreg r)) (relative_zero_eq s _)
  · exact completesAt_of_call hm rfl rfl (afterReads_readIndW s (.areg a)) (relative_zero_eq s _)
  · exact completesAt_of_call hm rfl hwf (afterReads_readIndW s (.mem m)) (relative_zero_eq s _)
  · exact completesAt_of_call hm rfl rfl (afterReads_readIndA s (.pair p)) (extractLow_eq_ofNat 20 _)
  · exact completesAt_of_call hm rfl hwf (afterReads_readIndA s (.mem m)) (extractLow_eq_ofNat 20 _)

/-! ### RTS (R485) -/

theorem exec_rts (s : State) : exec .rts s = .next { (popRet s).2 with pc := (popRet s).1 } := rfl

/-- Every call transfers control after a push of the return address. -/
theorem exec_call {i : Instr} (s : State) (hcall : Instr.isCall i = true) :
    ∃ a r, AfterReads s r ∧ exec i s = retireAt i a (pushRet r (s.nextPc i)) := by
  cases i with
  | jsrW d => exact ⟨_, s, afterReads_refl s, rfl⟩
  | jsrA a => exact ⟨_, s, afterReads_refl s, rfl⟩
  | jsrs n => exact ⟨_, s, afterReads_refl s, exec_jsrs n s⟩
  | jsriW x => exact ⟨_, _, afterReads_readIndW s x, rfl⟩
  | jsriA x => exact ⟨_, _, afterReads_readIndA s x, rfl⟩
  | _ => exact absurd hcall Bool.false_ne_true

/-! The registers after a push and a pop are those after a change of SP. -/

theorem setSp_regFile_congr {s t : State} (hregs : t.regFile = s.regFile) (hflg : t.flg = s.flg) (v : Word) :
    (t.setSp v).regFile = (s.setSp v).regFile := by
  simp only [State.regFile, Prod.mk.injEq] at hregs
  cases hu : s.flg.u <;> simp [State.setSp, State.regFile, hflg, hu, hregs]

theorem pushRet_regFile (s : State) (a : Addr) : (pushRet s a).regFile = (s.setSp (s.sp - 3)).regFile := by
  have hpush (t : State) (v : Byte) (b : Addr) : (writeByte t b v).regFile = t.regFile := by
    simp [State.regFile]
  have hbyte : (push8 s (BitVec.ofNat 8 (a.toNat / 65536))).regFile = (s.setSp (s.sp - 1)).regFile := hpush ..
  rw [pushRet_eq, write16, hpush, hpush, setSp_regFile_congr hbyte (by simp), setSp_setSp]

theorem popRet_regFile (s : State) : (popRet s).2.regFile = (s.setSp (s.sp + 3)).regFile := by
  rw [popRet_eq]
  exact setSp_regFile_congr (afterReads_refl s).afterRead.afterRead.afterRead.registers (by simp) _

/-- RTS after a call: the registers are those before it, SP being where it was. -/
theorem popRet_pushRet_regFile {s r t : State} {a : Addr} (hr : AfterReads s r) (hregs : t.regFile = (pushRet r a).regFile)
    (hflg : t.flg = s.flg) (hsp : t.sp = s.sp - 3) : (popRet t).2.regFile = s.regFile := by
  have hback : s.sp - 3 + 3 = r.sp := (BitVec.sub_add_cancel ..).trans hr.sp.symm
  have hpushed : t.regFile = (r.setSp (r.sp - 3)).regFile := hregs.trans (pushRet_regFile r a)
  calc (popRet t).2.regFile
      _ = (t.setSp r.sp).regFile := by rw [popRet_regFile, hsp, hback]
      _ = ((r.setSp (r.sp - 3)).setSp r.sp).regFile := setSp_regFile_congr hpushed (by rw [hflg, setSp_flg, hr.flags]) _
      _ = r.regFile := by rw [setSp_setSp, setSp_self]
      _ = s.regFile := hr.registers

/-- A return address in plain memory, seen from the SP that RTS leaves. -/
theorem rts_pc (s : State) (himage : ∀ b ∈ returnBelow (s.sp + 3), s.layout.inImage b = true) : (popRet s).1.toNat =
    (s.peek (zext20 s.sp)).toNat + 256 * (s.peek (zext20 s.sp + 1)).toNat + 65536 * ((s.peek (zext20 (s.sp + 2))).toNat % 16) := by
  have htop : s.sp + 3 - 1 = s.sp + 2 := by bv_omega
  have hlow : s.sp + 3 - 3 = s.sp := BitVec.add_sub_cancel ..
  rw [forall_mem_returnBelow, htop, hlow] at himage
  obtain ⟨hhi, hlo, hmid⟩ := himage
  exact popRet_fst_plain s hlo hmid hhi

/-- RTS where a call has left the return address. -/
theorem exec_rts_of_called {i : Instr} {s t : State} (hcalled : Called s i t) (hregs : (popRet t).2.regFile = s.regFile)
    (hw : ∀ b ∈ returnBelow s.sp, t.layout.isWritable b = true) :
    ∃ u, exec .rts t = .next u ∧ u.pc = s.nextPc i ∧ u.regFile = s.regFile ∧ u.flg = s.flg := by
  obtain ⟨hsp, hbelow, hflg⟩ := hcalled
  exact ⟨_, exec_rts t, popRet_of_returnBelow hsp hbelow hw, hregs, (popRet_snd_flg t).trans hflg⟩

/-- What a call leaves, as far as RTS sees it. -/
theorem call_next {i : Instr} {s t : State} (hm : Memory.wf s.mem = true) (hcall : Instr.isCall i = true) (hexec : exec i s = .next t) :
    Called s i t ∧ t.layout = s.layout ∧ (popRet t).2.regFile = s.regFile := by
  obtain ⟨a, r, hr, hpush⟩ := exec_call s hcall
  obtain ⟨-, ht⟩ := (retireAt_next i a _ t).1 (hpush.symm.trans hexec)
  have hcalled : Called s i t := ht ▸ pushRet_called hm hr
  obtain ⟨hsp, hbelow, hflg⟩ := hcalled
  have hregs : t.regFile = (pushRet r (s.nextPc i)).regFile := by rw [ht]; rfl
  have hlayout : t.layout = (pushRet r (s.nextPc i)).layout := by rw [ht]
  exact ⟨⟨hsp, hbelow, hflg⟩, hlayout.trans ((pushRet_layout ..).trans hr.layout), popRet_pushRet_regFile hr hregs hflg hsp⟩

/-- Settles O46: what a call leaves below the old SP is what RTS pops, and both move SP by three. -/
theorem returnUndoesCall : Obligations.ReturnUndoesCall := by
  refine ⟨fun s => ⟨_, exec_rts s, popRet_snd_sp s, rts_pc s⟩, fun i s t hm hcall hexec hw => ?_⟩
  obtain ⟨hcalled, hlayout, hregs⟩ := call_next hm hcall hexec
  obtain ⟨u, hrts, hpc, hregs, hflg⟩ := exec_rts_of_called hcalled hregs (by rwa [hlayout])
  simp only [State.regFile, Prod.mk.injEq] at hregs
  obtain ⟨hbank0, hbank1, hsb, husp, hisp, -⟩ := hregs
  exact ⟨u, hrts, hpc, hbank0, hbank1, hsb, husp, hisp, hflg⟩

end Sys2Proof.Machine
end


section
/-! SUPPORT. The conditions (R465), and what they say of destination and source after a comparison (R332): C is "no borrow", Z is equality, and S
differs from O exactly where the exact signed difference is negative. -/

namespace Sys2Proof.Machine

/-- Settles O22, row by row of the table of R465. -/
theorem conditionTable : Obligations.ConditionTable := by
  intro f
  refine ⟨Iff.rfl, ?ltu, Iff.rfl, ?ne, ?gtu, ?leu, ?pz, Iff.rfl, ?ge, ?le, ?gt, ?lt, Iff.rfl, ?no⟩
  case ltu => exact iff_of_eq (Bool.not_eq_true' f.c)
  case ne => exact iff_of_eq (Bool.not_eq_true' f.z)
  case gtu => simp [condHolds]
  case leu => simp [condHolds]
  case pz => exact iff_of_eq (Bool.not_eq_true' f.s)
  case ge => simp [condHolds]
  case le => simp [condHolds]
  case gt => simp [condHolds]
  case lt => simp [condHolds]
  case no => exact iff_of_eq (Bool.not_eq_true' f.o)

section
variable {n : Nat} {f g : Flg} {d x r : BitVec n} (h : Subtracts (fun _ => false) n f d x r g)
include h

/-- The difference as an integer: a borrow adds 2^n. -/
theorem Subtracts.result_eq : (r.toNat : Int) = d.toNat - x.toNat + if x.toNat ≤ d.toNat then 0 else 2 ^ n := by
  have hd : (d.toNat : Int) < 2 ^ n := by exact_mod_cast d.isLt
  have hx : (x.toNat : Int) < 2 ^ n := by exact_mod_cast x.isLt
  obtain ⟨hr, -⟩ := h
  rw [Bool.toNat_false, Nat.cast_zero, Int.sub_zero] at hr
  rw [hr]
  split
  · rw [Int.emod_eq_of_lt (by omega) (by omega), Int.add_zero]
  · rw [← Int.add_emod_right, Int.emod_eq_of_lt (by omega) (by omega)]

/-- C is "no borrow". -/
theorem Subtracts.c_iff : g.c = true ↔ x.toNat ≤ d.toNat := by
  obtain ⟨-, rfl⟩ := h
  exact decide_eq_true_iff

theorem Subtracts.z_iff : g.z = true ↔ d = x := by
  have hr := h.result_eq
  have hd := d.isLt
  have hx := x.isLt
  have hpow : ((2 ^ n : Nat) : Int) = 2 ^ n := Nat.cast_pow 2 n
  obtain ⟨-, rfl⟩ := h
  rw [← BitVec.toNat_inj]
  refine decide_eq_true_iff.trans ?_
  split at hr <;> omega

/-- S is the sign of the difference where that fits, and the opposite where it does not. -/
theorem Subtracts.s_xor_o_iff (hn : 0 < n) : xor g.s g.o = true ↔ d.toInt < x.toInt := by
  have hr := h.result_eq
  have hd := d.isLt
  have hx := x.isLt
  have hpow : ((2 ^ n : Nat) : Int) = 2 ^ n := Nat.cast_pow 2 n
  have hhalf : ((2 ^ (n - 1) : Nat) : Int) = 2 ^ (n - 1) := Nat.cast_pow 2 (n - 1)
  have htwice : 2 ^ n = 2 * 2 ^ (n - 1) := (mul_pow_sub_one hn.ne' 2).symm
  have hs : g.s = true ↔ 2 ^ (n - 1) ≤ r.toNat := by
    obtain ⟨-, rfl⟩ := h
    exact decide_eq_true_iff
  have ho : g.o = true ↔ d.toInt - x.toInt < -(2 ^ (n - 1) : Int) ∨ (2 ^ (n - 1) : Int) - 1 < d.toInt - x.toInt := by
    obtain ⟨-, rfl⟩ := h
    simp [outsideSigned]
  have hxor : xor g.s g.o = true ↔ ¬(g.s = true ↔ g.o = true) := by
    cases g.s <;> cases g.o <;> decide
  rw [hxor, hs, ho, BitVec.toInt_eq_toNat_cond, BitVec.toInt_eq_toNat_cond]
  split at hr <;> split <;> split <;> omega

end

/-- Settles O23: the rows of the table, with the flags of the comparison. -/
theorem conditionsAfterCompare : Obligations.ConditionsAfterCompare := by
  intro n f g d x r hn h
  obtain ⟨hgeu, hltu, heq, hne, hgtu, hleu, -, -, hge, hle, hgt, hlt, -, -⟩ := conditionTable g
  have hc := h.c_iff
  have hz := h.z_iff
  have hso := h.s_xor_o_iff hn
  have hunsigned : d = x ↔ d.toNat = x.toNat := BitVec.toNat_inj.symm
  have hsigned : d = x ↔ d.toInt = x.toInt := BitVec.toInt_inj.symm
  rw [← Bool.not_eq_true] at hltu hne hge
  rw [← Bool.not_eq_true (g.z)] at hgtu hgt
  rw [← Bool.not_eq_true] at hleu hgt
  refine ⟨hgeu.trans hc, ?_, ?_, ?_, heq.trans hz, hne.trans (not_congr hz), ?_, hlt.trans hso, ?_, ?_⟩
  · rw [hltu, hc]; omega
  · rw [hgtu, hc, hz, hunsigned]; omega
  · rw [hleu, hc, hz, hunsigned]; omega
  · rw [hge, hso]; omega
  · rw [hgt, hso, hz, hsigned]; omega
  · rw [hle, hso, hz, hsigned]; omega

end Sys2Proof.Machine
end


section
/-! SUPPORT. SBJNZ and LDINTB, the second names of other codes (R462, R540). -/

namespace Sys2Proof.Machine

/-! ### SBJNZ -/

section
variable (sz : Size) (k : BitVec 4) (dst : Operand) (d : Byte)

theorem encode_sbjnz : encode (.sbjnz sz k dst d) = encode (.adjnz sz (-k) dst d) := rfl

/-- The two names differ in nothing that `exec` looks at. -/
theorem exec_sbjnz (s : State) : exec (.sbjnz sz k dst d) s = exec (.adjnz sz (-k) dst d) s := rfl

end

/-! ### LDINTB -/

section
variable (a : Addr)

/-- What LDINTB loads into INTBH and into INTBL. -/
def intbHigh : Word := (a.extractLsb' 16 4).zeroExtend 16
def intbLow : Word := a.extractLsb' 0 16

theorem intbHigh_toNat : (intbHigh a).toNat = a.toNat / 65536 := by
  simp only [intbHigh, BitVec.toNat_setWidth, BitVec.extractLsb'_toNat, Nat.shiftRight_eq_div_pow]
  omega

theorem intbLow_toNat : (intbLow a).toNat = a.toNat % 65536 := by
  simp only [intbLow, BitVec.extractLsb'_toNat, Nat.shiftRight_zero]

theorem wordBytes_intbHigh : wordBytes (intbHigh a) = [(a.extractLsb' 16 4).zeroExtend 8, 0] := by
  have hlo : loByte (intbHigh a) = (a.extractLsb' 16 4).zeroExtend 8 := by
    apply BitVec.eq_of_toNat_eq
    simp only [loByte, BitVec.extractLsb'_toNat, intbHigh_toNat, BitVec.toNat_setWidth, Nat.shiftRight_eq_div_pow]
    omega
  have hhi : hiByte (intbHigh a) = 0 := by
    have ha := a.isLt
    apply BitVec.eq_of_toNat_eq
    simp only [hiByte, BitVec.extractLsb'_toNat, intbHigh_toNat, Nat.shiftRight_eq_div_pow, BitVec.ofNat_eq_ofNat, BitVec.toNat_ofNat]
    omega
  rw [wordBytes, hlo, hhi]

theorem wordBytes_intbLow : wordBytes (intbLow a) = [a.extractLsb' 0 8, a.extractLsb' 8 8] := by
  have hlo : loByte (intbLow a) = a.extractLsb' 0 8 := loByte_extractLow a
  have hhi : hiByte (intbLow a) = a.extractLsb' 8 8 :=
    (hiByte_extractLow a).trans (congrArg (BitVec.ofNat 8) (Nat.shiftRight_eq_div_pow a.toNat 8).symm)
  rw [wordBytes, hlo, hhi]

theorem encode_ldintb : encode (.ldintb a) = encode (.ldcImm .intbh (intbHigh a)) ++ encode (.ldcImm .intbl (intbLow a)) := by
  simp only [encode, two, wordBytes_intbHigh, wordBytes_intbLow]
  rfl

/-- The two halves together are the immediate. -/
theorem setCreg_intb (s : State) : (s.setCreg .intbh (intbHigh a)).setCreg .intbl (intbLow a) = { s with intb := a } := by
  have hintb : ((intbHigh a).extractLsb' 0 4 ++ s.intb.extractLsb' 0 16 : Addr).extractLsb' 16 4 ++ intbLow a = a := by
    have ha := a.isLt
    rw [BitVec.extractLsb'_append_eq_left]
    apply BitVec.eq_of_toNat_eq
    rw [append_toNat, BitVec.extractLsb'_toNat, intbHigh_toNat, intbLow_toNat, Nat.shiftRight_zero]
    omega
  exact congrArg (fun b : Addr => { s with intb := b }) hintb

theorem exec_ldintb (s : State) : exec (.ldintb a) s = .next { s with intb := a, inhibitOnce := true, pc := s.pc + 8 } := by
  have hexec : exec (.ldintb a) s =
    .next { ((s.setCreg .intbh (intbHigh a)).setCreg .intbl (intbLow a)) with inhibitOnce := true, pc := s.pc + 8 } := rfl
  rw [hexec, setCreg_intb]

theorem exec_ldcImm_pair (s : State) : ∃ u, exec (.ldcImm .intbh (intbHigh a)) s = .next u ∧
    exec (.ldcImm .intbl (intbLow a)) u = .next { s with intb := a, inhibitOnce := true, pc := s.pc + 8 } := by
  have hpc : s.pc + 4 + 4 = s.pc + 8 := BitVec.add_assoc ..
  have hlow : exec (.ldcImm .intbl (intbLow a)) { (s.setCreg .intbh (intbHigh a)).inhibit with pc := s.pc + 4 } =
      .next { ((s.setCreg .intbh (intbHigh a)).setCreg .intbl (intbLow a)) with inhibitOnce := true, pc := s.pc + 4 + 4 } := rfl
  rw [setCreg_intb, hpc] at hlow
  exact ⟨_, rfl, hlow⟩

end

/-- Settles O3: the bytes of the two names are the same, and so is what `exec` does. -/
theorem secondNames : Obligations.SecondNames := by
  refine ⟨fun sz k dst d rest s hwf => ?_, fun a rest s => ?_⟩
  · rw [encode_sbjnz]
    obtain ⟨t, hexec⟩ := (wellFormedCompletes (.adjnz sz (-k) dst d) s).1 hwf
    exact ⟨decode_adjnz hwf, t, hexec, (exec_sbjnz sz k dst d s).trans hexec⟩
  · obtain ⟨u, hhigh, hlow⟩ := exec_ldcImm_pair a s
    refine ⟨intbHigh a, intbLow a, intbHigh_toNat a, intbLow_toNat a, ?_, u, _, hhigh, hlow, exec_ldintb a s, rfl, rfl, rfl⟩
    rw [encode_ldintb, List.append_assoc]
    exact decode_encode _ rfl rfl

end Sys2Proof.Machine
end


section
/-! SUPPORT. The string instructions (R500 to R504): what one iteration moves, stores and counts, and the whole run of SSTR by induction on R3. -/

namespace Sys2Proof.Machine

/-! ### The end of an iteration (R500, R503) -/

section
variable {i : Instr} {s t : State}

theorem endIteration_last (hwf : i.wellFormed = true) (hpc : t.pc = s.pc) (h1 : s.word .r1hR3 = 1) :
    endIteration i s t = .next { t.setWord .r1hR3 (s.word .r1hR3 - 1) with pc := s.nextPc i } := by
  have hnext : (t.setWord .r1hR3 (s.word .r1hR3 - 1)).nextPc i = s.nextPc i := by
    rw [State.nextPc, State.nextPc, setWord_pc, hpc]
  exact (if_pos h1).trans ((retire_selectable i _ hwf).trans (by rw [hnext]))

theorem endIteration_more (hwf : i.wellFormed = true) (h1 : s.word .r1hR3 ≠ 1) :
    endIteration i s t = .next { t.setWord .r1hR3 (s.word .r1hR3 - 1) with pc := s.pc } :=
  (if_neg h1).trans (retireAt_selectable i _ _ hwf)

/-- An iteration counts R3 down and ends at the next instruction or at itself; the rest is as the transfer left it. -/
theorem endIteration_next (hwf : i.wellFormed = true) (hpc : t.pc = s.pc) :
    ∃ p, endIteration i s t = .next { t.setWord .r1hR3 (s.word .r1hR3 - 1) with pc := p } ∧
      NextIteration i s { t.setWord .r1hR3 (s.word .r1hR3 - 1) with pc := p } := by
  have hcount := setWord_word t .r1hR3 (s.word .r1hR3 - 1)
  by_cases h1 : s.word .r1hR3 = 1
  · exact ⟨_, endIteration_last hwf hpc h1, hcount, (if_pos h1).symm⟩
  · exact ⟨_, endIteration_more hwf h1, hcount, (if_neg h1).symm⟩

end

@[simp] theorem setAreg_byte (s : State) (a : AReg) (v : Word) (r : DReg) : (s.setAreg a v).byte r = s.byte r := by
  cases a <;> cases r <;> simp [State.setAreg, State.byte]

theorem setWord_r3_byte (s : State) (v : Word) (r : DReg) : (s.setWord .r1hR3 v).byte r = s.byte r := by
  cases r <;> simp [State.setWord, State.byte]

@[simp] theorem stored_setAreg {s : State} {a : AReg} {v : Word} {p : Addr} {bs : List Byte} :
    Stored (s.setAreg a v) p bs ↔ Stored s p bs := by
  simp [Stored, MemIs]

/-! ### SMOVF and SMOVB (R501, R502) -/

section
variable {sz : Size} {s : State}

theorem stringSource_eq (s : State) :
    stringSource s = BitVec.ofNat 20 ((s.byte .r1hR3).toNat % 16 * 65536 + (s.areg .a0).toNat) := by
  have ha := (s.areg .a0).isLt
  apply BitVec.eq_of_toNat_eq
  rw [stringSource, append_toNat, extractLow_eq_ofNat, BitVec.toNat_ofNat, BitVec.toNat_ofNat]
  omega

theorem elementSize_toNat (sz : Size) : (elementSize sz).toNat = sizeBytes sz := by
  cases sz <;> rfl

@[simp] theorem copyElement_pc : (copyElement sz s).pc = s.pc := by
  cases sz <;> simp [copyElement]

@[simp] theorem copyElement_byte (r : DReg) : (copyElement sz s).byte r = s.byte r := by
  have hbank : (copyElement sz s).bank = s.bank := by cases sz <;> simp [copyElement]
  cases r <;> simp only [State.byte, hbank]

theorem copyElement_stored (hm : Memory.wf s.mem = true) :
    Stored (copyElement sz s) (zext20 (s.areg .a1)) (elementBytes sz s (stringSource s)) := by
  cases sz with
  | b => exact stored_writeByte (by simpa using hm) _
  | w => exact stored_write16 (by simpa using hm) _

/-- One element moved: R1H takes `x` where A0 has carried or borrowed, A0 and A1 their new values `v` and `w`. -/
def moveElement (sz : Size) (carry : Bool) (x : Byte) (v w : Word) (s : State) : State :=
  ((if carry then (copyElement sz s).setByte .r1hR3 x else copyElement sz s).setAreg .a0 v).setAreg .a1 w

theorem moveElement_pc (carry : Bool) (x : Byte) (v w : Word) : (moveElement sz carry x v w s).pc = s.pc := by
  cases carry <;> simp [moveElement]

theorem moveElement_areg (carry : Bool) (x : Byte) (v w : Word) :
    (moveElement sz carry x v w s).areg .a0 = v ∧ (moveElement sz carry x v w s).areg .a1 = w := by
  simp [moveElement, setAreg_areg_ne]

theorem moveElement_byte_r1h (carry : Bool) (x : Byte) (v w : Word) :
    (moveElement sz carry x v w s).byte .r1hR3 = if carry then x else s.byte .r1hR3 := by
  cases carry <;> simp [moveElement]

theorem moveElement_stored (carry : Bool) (x : Byte) (v w : Word) (hm : Memory.wf s.mem = true) :
    Stored (moveElement sz carry x v w s) (zext20 (s.areg .a1)) (elementBytes sz s (stringSource s)) := by
  rw [moveElement, stored_setAreg, stored_setAreg]
  split
  · exact (copyElement_stored hm).of_same_image (setByte_mem ..) (setByte_layout ..) (setByte_platformLog ..)
  · exact copyElement_stored hm

/-- An iteration that moves an element. -/
theorem next_of_moveElement {i : Instr} {carry : Bool} {x : Byte} {v w : Word} (hm : Memory.wf s.mem = true) (hwf : i.wellFormed = true)
    (hexec : exec i s = endIteration i s (moveElement sz carry x v w s)) :
    ∃ t, exec i s = .next t ∧ NextIteration i s t ∧ Stored t (zext20 (s.areg .a1)) (elementBytes sz s (stringSource s)) ∧
      t.areg .a0 = v ∧ t.areg .a1 = w ∧ t.byte .r1hR3 = if carry then x else s.byte .r1hR3 := by
  obtain ⟨p, hend, hnext⟩ := endIteration_next hwf (moveElement_pc (s := s) (sz := sz) carry x v w)
  obtain ⟨ha0, ha1⟩ := moveElement_areg (s := s) (sz := sz) carry x v w
  refine ⟨_, hexec.trans hend, hnext, ?_, ?_, ?_, ?_⟩
  · exact ((moveElement_stored carry x v w hm).of_same_image (setWord_mem ..) (setWord_layout ..) (setWord_platformLog ..)).with_pc
  · exact (setWord_areg (moveElement sz carry x v w s) ..).trans ha0
  · exact (setWord_areg (moveElement sz carry x v w s) ..).trans ha1
  · exact (setWord_r3_byte ..).trans (moveElement_byte_r1h carry x v w)

theorem exec_smovf (h0 : s.word .r1hR3 ≠ 0) : exec (.smovf sz) s = endIteration (.smovf sz) s
    (moveElement sz (decide (65536 ≤ (s.areg .a0).toNat + sizeBytes sz)) (s.byte .r1hR3 + 1)
      (s.areg .a0 + elementSize sz) (s.areg .a1 + elementSize sz) s) := by
  rw [← elementSize_toNat]
  exact if_neg h0

theorem exec_smovb (h0 : s.word .r1hR3 ≠ 0) : exec (.smovb sz) s = endIteration (.smovb sz) s
    (moveElement sz (decide ((s.areg .a0).toNat < sizeBytes sz)) (s.byte .r1hR3 - 1)
      (s.areg .a0 - elementSize sz) (s.areg .a1 - elementSize sz) s) := by
  rw [← elementSize_toNat]
  exact if_neg h0

theorem exec_smovf_zero (h0 : s.word .r1hR3 = 0) : exec (.smovf sz) s = .next { s with pc := s.nextPc (.smovf sz) } :=
  (if_pos h0).trans (retire_selectable _ s rfl)

theorem exec_smovb_zero (h0 : s.word .r1hR3 = 0) : exec (.smovb sz) s = .next { s with pc := s.nextPc (.smovb sz) } :=
  (if_pos h0).trans (retire_selectable _ s rfl)

end

/-- Settles O57: each direction moves one element, with its own new A0, A1 and R1H. -/
theorem stringMoves : Obligations.StringMoves := by
  intro s sz hm src
  have hsrc : src = stringSource s := (stringSource_eq s).symm
  rw [hsrc]
  refine ⟨fun h0 => ⟨exec_smovf_zero h0, exec_smovb_zero h0⟩, fun h0 => ⟨?_, ?_⟩⟩
  · simpa only [decide_eq_true_eq] using next_of_moveElement hm rfl (exec_smovf h0)
  · simpa only [decide_eq_true_eq] using next_of_moveElement hm rfl (exec_smovb h0)

/-! ### SSTR: one element (R504) -/

section
variable {sz : Size} {s t : State} {p : Word}

/-- What SSTR stores at each element: R0L or R0. -/
def storeData (sz : Size) (s : State) : List Byte :=
  match sz with
  | .b => [s.byte .r0lR0]
  | .w => wordBytes (s.word .r0lR0)

/-- The store of one element at A1. -/
def storeElement (sz : Size) (s : State) : State :=
  match sz with
  | .b => writeByte s (zext20 (s.areg .a1)) (s.byte .r0lR0)
  | .w => write16 s (zext20 (s.areg .a1)) (s.word .r0lR0)

theorem storeElement_stored (hm : Memory.wf s.mem = true) : Stored (storeElement sz s) (zext20 (s.areg .a1)) (storeData sz s) := by
  cases sz with
  | b => exact stored_writeByte hm _
  | w => exact stored_write16 hm _

theorem storeElement_wf (hm : Memory.wf s.mem = true) : Memory.wf (storeElement sz s).mem = true := by
  cases sz with
  | b => exact writeByte_wf _ _ _ hm
  | w => exact write16_wf _ _ _ hm

@[simp] theorem storeElement_pc : (storeElement sz s).pc = s.pc := by
  cases sz <;> simp [storeElement]

@[simp] theorem storeElement_layout : (storeElement sz s).layout = s.layout := by
  cases sz <;> simp [storeElement]

@[simp] theorem storeElement_word (r : DReg) : (storeElement sz s).word r = s.word r := by
  have hbank : (storeElement sz s).bank = s.bank := by cases sz <;> simp [storeElement]
  cases r <;> simp only [State.word, hbank]

/-- SSTR's step, PC apart: the element is stored, A1 moves on, R3 counts down. -/
def storeStep (sz : Size) (s : State) : State :=
  ((storeElement sz s).setAreg .a1 (s.areg .a1 + elementSize sz)).setWord .r1hR3 (s.word .r1hR3 - 1)

theorem exec_sstr (h0 : s.word .r1hR3 ≠ 0) : exec (.sstr sz) s =
    endIteration (.sstr sz) s ((storeElement sz s).setAreg .a1 (s.areg .a1 + elementSize sz)) := by
  cases sz <;> exact if_neg h0

theorem exec_sstr_zero (h0 : s.word .r1hR3 = 0) : exec (.sstr sz) s = .next { s with pc := s.nextPc (.sstr sz) } :=
  (if_pos h0).trans (retire_selectable _ s rfl)

@[simp] theorem storeStep_pc : (storeStep sz s).pc = s.pc := by
  simp [storeStep]

@[simp] theorem storeStep_layout : (storeStep sz s).layout = s.layout := by
  simp [storeStep]

theorem storeStep_areg : (storeStep sz s).areg .a1 = s.areg .a1 + elementSize sz := by
  simp [storeStep]

theorem storeStep_count : (storeStep sz s).word .r1hR3 = s.word .r1hR3 - 1 := setWord_word ..

theorem storeStep_r0 : (storeStep sz s).word .r0lR0 = s.word .r0lR0 := by
  simp [storeStep, setWord_word_ne]

theorem storeStep_mem : (storeStep sz s).mem = (storeElement sz s).mem := by
  simp [storeStep]

theorem exec_sstr_last (h1 : s.word .r1hR3 = 1) : exec (.sstr sz) s = .next { storeStep sz s with pc := s.nextPc (.sstr sz) } :=
  (exec_sstr (by rw [h1]; decide)).trans (endIteration_last rfl (by simp) h1)

/-- Before the last iteration PC stays at the instruction. -/
theorem exec_sstr_more (h0 : s.word .r1hR3 ≠ 0) (h1 : s.word .r1hR3 ≠ 1) : exec (.sstr sz) s = .next (storeStep sz s) := by
  have hpc : { storeStep sz s with pc := s.pc } = storeStep sz s := by rw [← storeStep_pc (sz := sz)]
  exact (exec_sstr h0).trans ((endIteration_more rfl h1).trans (congrArg _ hpc))

/-! ### SSTR: the whole run -/

theorem nextPc_sstr_ne : s.nextPc (.sstr sz) ≠ s.pc := by
  have hlength : (Instr.sstr sz).length = 2 := by cases sz <;> rfl
  rw [State.nextPc, hlength]
  bv_omega

/-- The run of SSTR is its step, as many times as R3 says, and then the next instruction. -/
theorem runRepeat_sstr (n : Nat) (hn : (s.word .r1hR3).toNat = n + 1) :
    runRepeat (.sstr sz) (n + 1) s = some { (storeStep sz)^[n + 1] s with pc := s.nextPc (.sstr sz) } := by
  induction n generalizing s with
  | zero =>
    have h1 : s.word .r1hR3 = 1 := BitVec.eq_of_toNat_eq hn
    simp only [runRepeat, exec_sstr_last h1, if_neg nextPc_sstr_ne]
    rfl
  | succ n ih =>
    have h0 : s.word .r1hR3 ≠ 0 := fun h => by simp [h] at hn
    have h1 : s.word .r1hR3 ≠ 1 := fun h => by simp [h] at hn
    have hcount : ((storeStep sz s).word .r1hR3).toNat = n + 1 := by
      rw [storeStep_count]
      bv_omega
    have hnext : (storeStep sz s).nextPc (.sstr sz) = s.nextPc (.sstr sz) := by rw [State.nextPc, State.nextPc, storeStep_pc]
    rw [runRepeat, exec_sstr_more h0 h1]
    dsimp only
    rw [if_pos storeStep_pc, ih hcount, hnext, ← Function.iterate_succ_apply]

/-! ### SSTR: what the run stores -/

theorem storeData_length : (storeData sz s).length = sizeBytes sz := by
  cases sz <;> rfl

/-- The data are those of R0, which SSTR does not write. -/
theorem storeData_congr (h : t.word .r0lR0 = s.word .r0lR0) : storeData sz t = storeData sz s := by
  cases sz with
  | b => exact congrArg (fun w => [loByte w]) h
  | w => exact congrArg wordBytes h

theorem storeElement_peek (a : Addr) (h : a ∉ bytesFrom (zext20 (s.areg .a1)) (sizeBytes sz)) : (storeElement sz s).peek a = s.peek a := by
  cases sz with
  | b => exact writeByte_peek_outside s _ _ a h
  | w => exact write16_peek_outside s _ _ a h

/-- Two elements of a string share no byte, wherever the 16-bit pointer wraps: a word at an odd address reaches into 10000h, and no element
starts there. -/
theorem element_bytes_apart {q : Word} {k : Nat} (hpq : p ≠ q) (halign : p.toNat % sizeBytes sz = q.toNat % sizeBytes sz)
    (hk : k < sizeBytes sz) : zext20 p + BitVec.ofNat 20 k ∉ bytesFrom (zext20 q) (sizeBytes sz) := by
  rw [ne_eq, BitVec.toNat_eq] at hpq
  have hp := p.isLt
  have hq := q.isLt
  have hone : (1 : Addr).toNat = 1 := rfl
  cases sz with
  | b =>
    obtain rfl : k = 0 := Nat.lt_one_iff.1 hk
    simp only [sizeBytes, mem_bytesFrom_one, BitVec.toNat_eq, BitVec.toNat_add, BitVec.toNat_ofNat, zext20_toNat]
    omega
  | w =>
    simp only [sizeBytes] at hk halign
    simp only [sizeBytes, mem_bytesFrom_two, BitVec.toNat_eq, BitVec.toNat_add, BitVec.toNat_ofNat, zext20_toNat, hone]
    omega

/-- Writable memory of `t` holds SSTR's data of `s` in the element at `p`. -/
def HoldsElement (sz : Size) (s t : State) (p : Word) : Prop :=
  ∀ k v, (storeData sz s)[k]? = some v → MemIs t (zext20 p + BitVec.ofNat 20 k) v

/-- A further store of the same data, over the element or apart from it, leaves it in memory. -/
theorem HoldsElement.store (h : HoldsElement sz s t p) (hm : Memory.wf t.mem = true) (hdata : t.word .r0lR0 = s.word .r0lR0)
    (halign : p.toNat % sizeBytes sz = (t.areg .a1).toNat % sizeBytes sz) : HoldsElement sz s (storeElement sz t) p := by
  intro k v hk
  by_cases hp : p = t.areg .a1
  · rw [← storeData_congr hdata] at hk
    obtain ⟨hbytes, -⟩ := storeElement_stored (sz := sz) hm
    exact hp ▸ hbytes k v hk
  · have hlt : k < sizeBytes sz := storeData_length (s := s) ▸ (List.getElem?_eq_some_iff.1 hk).1
    intro hw
    rw [storeElement_peek _ (element_bytes_apart hp halign hlt)]
    exact h k v hk (by simpa using hw)

/-- The pointer of element `j`. -/
def elementPtr (sz : Size) (s : State) (j : Nat) : Word := s.areg .a1 + BitVec.ofNat 16 (sizeBytes sz * j)

theorem elementPtr_aligned (i j : Nat) : (elementPtr sz s i).toNat % sizeBytes sz = (elementPtr sz s j).toNat % sizeBytes sz := by
  simp only [elementPtr, BitVec.toNat_add, BitVec.toNat_ofNat]
  cases sz <;> simp only [sizeBytes] <;> omega

/-- `n` elements of the string have been stored. -/
structure Filled (sz : Size) (s : State) (n : Nat) (t : State) : Prop where
  canonical : Memory.wf t.mem = true
  layout : t.layout = s.layout
  data : t.word .r0lR0 = s.word .r0lR0
  count : t.word .r1hR3 = s.word .r1hR3 - BitVec.ofNat 16 n
  pointer : t.areg .a1 = elementPtr sz s n
  elements : ∀ j, j < n → HoldsElement sz s t (elementPtr sz s j)

theorem filled_zero (hm : Memory.wf s.mem = true) : Filled sz s 0 s where
  canonical := hm
  layout := rfl
  data := rfl
  count := (BitVec.sub_zero _).symm
  pointer := (BitVec.add_zero _).symm
  elements := nofun

theorem Filled.step {n : Nat} (h : Filled sz s n t) : Filled sz s (n + 1) (storeStep sz t) where
  canonical := storeStep_mem (s := t) ▸ storeElement_wf h.canonical
  layout := storeStep_layout.trans h.layout
  data := storeStep_r0.trans h.data
  count := by rw [storeStep_count, h.count]; bv_omega
  pointer := by
    rw [storeStep_areg, h.pointer, elementPtr, elementPtr]
    cases sz <;> simp only [elementSize, sizeBytes] <;> bv_omega
  elements j hj := by
    have himage {u : State} (hu : u.mem = (storeElement sz t).mem) (hl : u.layout = t.layout)
        (h : HoldsElement sz s (storeElement sz t) (elementPtr sz s j)) : HoldsElement sz s u (elementPtr sz s j) := by
      simpa only [HoldsElement, MemIs, State.peek, hu, hl, storeElement_layout] using h
    refine himage storeStep_mem storeStep_layout ?_
    by_cases hjn : j < n
    · exact (h.elements j hjn).store h.canonical h.data (by rw [h.pointer]; exact elementPtr_aligned j n)
    · obtain rfl : j = n := by omega
      intro k v hk
      rw [← storeData_congr h.data] at hk
      obtain ⟨hbytes, -⟩ := storeElement_stored (sz := sz) h.canonical
      exact h.pointer ▸ hbytes k v hk

theorem filled_iterate (hm : Memory.wf s.mem = true) (n : Nat) : Filled sz s n ((storeStep sz)^[n] s) := by
  induction n with
  | zero => exact filled_zero hm
  | succ n ih => rw [Function.iterate_succ_apply']; exact ih.step

/-- The whole run: every element is in memory, R3 is 0 and A1 behind the string. -/
theorem runRepeat_sstr_filled (hm : Memory.wf s.mem = true) (h0 : s.word .r1hR3 ≠ 0) :
    ∃ t, runRepeat (.sstr sz) (s.word .r1hR3).toNat s = some t ∧ t.pc = s.nextPc (.sstr sz) ∧
      Filled sz s (s.word .r1hR3).toNat t := by
  obtain ⟨n, hn⟩ : ∃ n, (s.word .r1hR3).toNat = n + 1 :=
    Nat.exists_eq_succ_of_ne_zero fun h => h0 (BitVec.eq_of_toNat_eq h)
  rw [hn]
  obtain ⟨hcanonical, hlayout, hdata, hcount, hpointer, helements⟩ := filled_iterate (sz := sz) hm (n + 1)
  exact ⟨_, runRepeat_sstr n hn, rfl, hcanonical, hlayout, hdata, hcount, hpointer, helements⟩

theorem Filled.count_eq_zero (h : Filled sz s (s.word .r1hR3).toNat t) : t.word .r1hR3 = 0 := by
  rw [h.count, BitVec.ofNat_toNat, BitVec.setWidth_eq]
  exact BitVec.sub_self _

end

theorem next_of_sstr {s : State} {sz : Size} (hm : Memory.wf s.mem = true) (h0 : s.word .r1hR3 ≠ 0) :
    ∃ t, exec (.sstr sz) s = .next t ∧ NextIteration (.sstr sz) s t ∧ t.areg .a1 = s.areg .a1 + elementSize sz ∧
      Stored t (zext20 (s.areg .a1)) (storeData sz s) := by
  obtain ⟨p, hend, hnext⟩ := endIteration_next (i := .sstr sz) (s := s) (t := (storeElement sz s).setAreg .a1 _) rfl
    ((setAreg_pc ..).trans storeElement_pc)
  refine ⟨_, (exec_sstr h0).trans hend, hnext, (storeStep_areg : (storeStep sz s).areg .a1 = _), ?_⟩
  exact ((stored_setAreg.2 (storeElement_stored hm)).of_same_image (setWord_mem ..) (setWord_layout ..) (setWord_platformLog ..)).with_pc

/-- Settles O58: one iteration, and by `filled_iterate` the whole run. -/
theorem stringStore : Obligations.StringStore := by
  refine ⟨fun s sz h0 => exec_sstr_zero h0, fun s sz hm h0 => ?_, fun s hm h0 hw => ?_, fun s hm h0 hw => ?_⟩
  · obtain ⟨t, hexec, hnext, hareg, hstored⟩ := next_of_sstr (sz := sz) hm h0
    refine ⟨t, hexec, hnext, hareg, ?_⟩
    cases sz <;> exact hstored
  · obtain ⟨t, hrun, hpc, hfilled⟩ := runRepeat_sstr_filled (sz := .b) hm h0
    refine ⟨t, hrun, hpc, hfilled.count_eq_zero, ?_, fun j hj => ?_⟩
    · rw [hfilled.pointer, elementPtr, sizeBytes, one_mul, BitVec.ofNat_toNat, BitVec.setWidth_eq]
    · have helement := hfilled.elements j hj 0 _ rfl
      rw [elementPtr, sizeBytes, one_mul, BitVec.add_zero] at helement
      exact helement (by rw [hfilled.layout]; exact hw j hj)
  · obtain ⟨t, hrun, hpc, hfilled⟩ := runRepeat_sstr_filled (sz := .w) hm h0
    refine ⟨t, hrun, hpc, hfilled.count_eq_zero, ?_, fun j hj => ?_⟩
    · rw [hfilled.pointer, elementPtr, sizeBytes]
      bv_omega
    · obtain ⟨hwlo, hwhi⟩ := hw j hj
      have hlo := hfilled.elements j hj 0 _ rfl
      rw [BitVec.add_zero] at hlo
      exact ⟨hlo (by rw [hfilled.layout]; exact hwlo), hfilled.elements j hj 1 _ rfl (by rw [hfilled.layout]; exact hwhi)⟩

end Sys2Proof.Machine
end


section
/-! SUPPORT. Interrupt entry and the return from it (R520, R560, R620, R621): the vector, the frame, and that REIT takes back what an entry has left. -/

namespace Sys2Proof.Machine

/-! ### Vectors (R75) -/

section
variable (s : State) {vec : Addr}

theorem forall_mem_bytesFrom_four {a : Addr} {P : Addr → Prop} :
    (∀ b ∈ bytesFrom a 4, P b) ↔ P a ∧ P (a + 1) ∧ P (a + 2) ∧ P (a + 2 + 1) := by
  have h : a + 3 = a + 2 + 1 := by bv_omega
  simp only [mem_bytesFrom_four, h, forall_eq_or_imp, forall_eq]

/-- Four bytes read from plain memory. -/
theorem read32_fst (h : ∀ a ∈ bytesFrom vec 4, s.layout.inImage a = true) :
    (read32 s vec).1 = (s.peek (vec + 2 + 1) ++ s.peek (vec + 2)) ++ (s.peek (vec + 1) ++ s.peek vec) := by
  obtain ⟨h0, h1, h2, h3⟩ := forall_mem_bytesFrom_four.1 h
  have hhi : (read16 (read16 s vec).2 (vec + 2)).1 = s.peek (vec + 2 + 1) ++ s.peek (vec + 2) := by
    rw [read16_fst _ _ (by simpa using h2) (by simpa using h3)]
    simp
  rw [← read16_fst s vec h0 h1, ← hhi]
  rfl

theorem read32_snd_plain (h : ∀ a ∈ bytesFrom vec 4, s.layout.inImage a = true) : (read32 s vec).2 = s := by
  obtain ⟨h0, h1, h2, h3⟩ := forall_mem_bytesFrom_four.1 h
  rw [read32_snd, afterRead_plain s _ h0, afterRead_plain s _ h1, afterRead_plain s _ h2, afterRead_plain s _ h3]

/-- The handler address is bits 19:0 of the vector. -/
theorem read32_handler (h : ∀ a ∈ bytesFrom vec 4, s.layout.inImage a = true) :
    ((read32 s vec).1.extractLsb' 0 20).toNat = s.vectorAt vec := by
  have h0 := (s.peek vec).isLt
  have h1 := (s.peek (vec + 1)).isLt
  have h2 := (s.peek (vec + 2)).isLt
  have happend : (read32 s vec).1.toNat =
      ((s.peek (vec + 2 + 1)).toNat * 256 + (s.peek (vec + 2)).toNat) * 65536 + ((s.peek (vec + 1)).toNat * 256 + (s.peek vec).toNat) := by
    rw [read32_fst s h, append_toNat, append_toNat, append_toNat]
    rfl
  rw [BitVec.extractLsb'_toNat, Nat.shiftRight_zero, happend, State.vectorAt]
  omega

theorem inImage_fixed_vector (l : Layout) (h : 0xFFE00 ≤ vec.toNat) (h' : vec.toNat ≤ 0xFFFFC) :
    ∀ a ∈ bytesFrom vec 4, l.inImage a = true := by
  refine forall_mem_bytesFrom_four.2 ⟨?_, ?_, ?_, ?_⟩ <;> exact Layout.inImage_vectors l (by bv_omega)

end

/-! ### Words on the stack (R63, R70) -/

section
variable {s t : State} {v : Word} {b : Addr} {x : Byte}

theorem push16_memIs (hm : Memory.wf s.mem = true) (v : Word) :
    MemIs (push16 s v) (zext20 (s.sp - 2)) (loByte v) ∧ MemIs (push16 s v) (zext20 (s.sp - 2) + 1) (hiByte v) :=
  ⟨fun hw => write16_peek_lo _ _ _ (by simpa using hm) (by simpa using hw),
    fun hw => write16_peek_hi _ _ _ (by simpa using hm) (by simpa using hw)⟩

theorem MemIs.push16 (h : MemIs s b x) (hb : b ∉ wordBelow s.sp) : MemIs (push16 s v) b x := by
  intro hw
  rw [push16_peek_outside s v b hb]
  exact h (by simpa using hw)

/-- Two words next to each other on the stack share no byte. -/
theorem not_mem_wordBelow (p : Word) : zext20 p ∉ wordBelow p ∧ zext20 p + 1 ∉ wordBelow p := by
  have hback : p - 2 + 2 = p := BitVec.sub_add_cancel ..
  have hapart := wordAddr_apart (p - 2) (j := 0) (by decide)
  rw [hback, wordAddr_zero] at hapart
  obtain ⟨h00, h01, h10, h11⟩ := hapart
  simp only [wordBelow, mem_bytesFrom_two, not_or]
  exact ⟨⟨h00, h01⟩, ⟨h10, h11⟩⟩

theorem push16_regFile (s : State) (v : Word) : (push16 s v).regFile = (s.setSp (s.sp - 2)).regFile := by
  simp [push16, State.regFile]

theorem pop16_regFile (s : State) : (pop16 s).2.regFile = (s.setSp (s.sp + 2)).regFile :=
  setSp_regFile_congr (afterReads_refl s).afterRead.afterRead.registers (by simp) _

theorem pop16_fst_plain (hlo : s.layout.inImage (zext20 s.sp) = true) (hhi : s.layout.inImage (zext20 s.sp + 1) = true) :
    (pop16 s).1 = s.peek (zext20 s.sp + 1) ++ s.peek (zext20 s.sp) :=
  read16_fst s _ hlo hhi

end

/-! ### The frame (R621) -/

section
variable {s t : State} {p : Word} {f : Flg} {ret : Addr}

theorem loByte_frameHigh (f : Flg) (ret : Addr) : loByte (frameHigh f ret) = f.low :=
  loByte_append (0#1 ++ f.ipl ++ ret.extractLsb' 16 4) f.low

theorem hiByte_frameHigh (f : Flg) (ret : Addr) : hiByte (frameHigh f ret) = BitVec.ofNat 8 (16 * f.ipl.toNat + ret.toNat / 65536) := by
  have hret := ret.isLt
  have hipl := f.ipl.isLt
  have hhi : hiByte (frameHigh f ret) = 0#1 ++ f.ipl ++ ret.extractLsb' 16 4 := hiByte_append (0#1 ++ f.ipl ++ ret.extractLsb' 16 4) f.low
  apply BitVec.eq_of_toNat_eq
  rw [hhi, append_toNat, append_toNat, BitVec.extractLsb'_toNat, Nat.shiftRight_eq_div_pow, BitVec.toNat_ofNat]
  simp only [BitVec.toNat_ofNat]
  omega

theorem forall_mem_frameBelow {P : Addr → Prop} : (∀ a ∈ frameBelow p, P a) ↔
    P (zext20 (p - 2)) ∧ P (zext20 (p - 2) + 1) ∧ P (zext20 (p - 4)) ∧ P (zext20 (p - 4) + 1) := by
  have h : p - 2 - 2 = p - 4 := by bv_omega
  simp only [frameBelow, wordBelow, List.mem_append, mem_bytesFrom_two, h, or_assoc, forall_eq_or_imp, forall_eq]

theorem FrameBelow.of_same_image (h : FrameBelow t p f ret) {u : State} (hmem : u.mem = t.mem) (hlayout : u.layout = t.layout) :
    FrameBelow u p f ret := by
  simpa only [FrameBelow, MemIs, State.peek, hmem, hlayout] using h

/-- The two pushes of an entry leave the frame. -/
theorem push16_frameBelow (hm : Memory.wf s.mem = true) :
    FrameBelow (push16 (push16 s (frameHigh f ret)) (ret.extractLsb' 0 16)) s.sp f ret := by
  have hsp : s.sp - 2 - 2 = s.sp - 4 := by bv_omega
  obtain ⟨hlo, hhi⟩ := push16_memIs hm (frameHigh f ret)
  obtain ⟨hpclo, hpcmid⟩ := push16_memIs (push16_wf s (frameHigh f ret) hm) (ret.extractLsb' 0 16)
  obtain ⟨hlo', hhi'⟩ := not_mem_wordBelow (s.sp - 2)
  rw [← push16_sp s (frameHigh f ret)] at hlo' hhi'
  rw [push16_sp, hsp, loByte_extractLow] at hpclo
  rw [push16_sp, hsp, hiByte_extractLow] at hpcmid
  rw [loByte_frameHigh] at hlo
  rw [hiByte_frameHigh] at hhi
  exact ⟨hpclo, hpcmid, hlo.push16 (push16_sp s _ ▸ hlo'), hhi.push16 (push16_sp s _ ▸ hhi')⟩

end

/-! ### The entry (R620) -/

section
variable (s : State) (vec ret : Addr) (clearU : Bool) (lvl : Option (BitVec 3))

/-- The stack pointer that the new U selects. -/
def entryStack : Word := if !clearU && s.flg.u then s.usp else s.isp

/-- FLG during an entry: I and D clear, U clear if asked. -/
def entryFlags : Flg := { s.flg with i := false, d := false, u := !clearU && s.flg.u }

/-- The state after the frame has been pushed. -/
def pushFrame : State := push16 (push16 (s.setFlg (entryFlags s clearU)) (frameHigh s.flg ret)) (ret.extractLsb' 0 16)

/-- The state in which the vector is read. -/
def beforeVector : State := (pushFrame s ret clearU).setFlg { (pushFrame s ret clearU).flg with ipl := lvl.getD (pushFrame s ret clearU).flg.ipl }

theorem interruptSequence_eq : interruptSequence s vec ret clearU lvl =
    { (read32 (beforeVector s ret clearU lvl) vec).2 with
      pc := (read32 (beforeVector s ret clearU lvl) vec).1.extractLsb' 0 20
      iAccept := false } := by
  simp only [interruptSequence, beforeVector, pushFrame, entryFlags]

theorem interruptSequence_mem : (interruptSequence s vec ret clearU lvl).mem = (pushFrame s ret clearU).mem := by
  simp [interruptSequence_eq, beforeVector]

theorem pushFrame_frameBelow (hm : Memory.wf s.mem = true) : FrameBelow (pushFrame s ret clearU) (entryStack s clearU) s.flg ret :=
  push16_frameBelow (s := s.setFlg (entryFlags s clearU)) hm

@[simp] theorem pushFrame_layout : (pushFrame s ret clearU).layout = s.layout := by
  simp [pushFrame]

theorem pushFrame_regFile : (pushFrame s ret clearU).regFile =
    (s.bank0, s.bank1, s.sb, if !clearU && s.flg.u then s.usp - 4 else s.usp, if !clearU && s.flg.u then s.isp else s.isp - 4, s.intb) := by
  have hsub (w : Word) : w - 2 - 2 = w - 4 := by bv_omega
  rw [pushFrame, push16_regFile, setSp_regFile_congr (push16_regFile ..) (by simp), setSp_setSp, push16_sp, hsub]
  cases hu : (entryFlags s clearU).u <;> simp [State.regFile, State.setSp, State.sp, hu, show (!clearU && s.flg.u) = _ from hu]

theorem interruptSequence_regFile : (interruptSequence s vec ret clearU lvl).regFile = (pushFrame s ret clearU).regFile := by
  simp [State.regFile, interruptSequence_eq, beforeVector]

theorem interruptSequence_handler : AtHandler (interruptSequence s vec ret clearU lvl) vec := by
  intro himage
  have hpeek (a : Addr) : (interruptSequence s vec ret clearU lvl).peek a = (beforeVector s ret clearU lvl).peek a := by
    simp [State.peek, interruptSequence_eq]
  have hhandler := read32_handler (beforeVector s ret clearU lvl) (vec := vec) (by simpa [interruptSequence_eq] using himage)
  simp only [State.vectorAt, hpeek]
  exact hhandler

/-- What the interrupt sequence leaves (R620 to R622, R670). -/
theorem interruptSequence_entered (hm : Memory.wf s.mem = true) :
    Entered s (interruptSequence s vec ret clearU lvl) vec ret clearU lvl := by
  have hregs := (interruptSequence_regFile s vec ret clearU lvl).trans (pushFrame_regFile s ret clearU)
  simp only [State.regFile, Prod.mk.injEq] at hregs
  obtain ⟨hbank0, hbank1, hsb, husp, hisp, hintb⟩ := hregs
  exact {
    flags := interruptSequence_flg s vec ret clearU lvl
    user := husp
    interrupt := hisp
    frame := (pushFrame_frameBelow s ret clearU hm).of_same_image (interruptSequence_mem ..) (by simp)
    handler := interruptSequence_handler s vec ret clearU lvl
    banks := ⟨hbank0, hbank1, hsb, hintb⟩
    accepts := rfl }

end

/-- An entry is seen from the registers, the flags and IPL before it. -/
theorem Entered.of_same_registers {s r t : State} {vec ret : Addr} {clearU : Bool} {lvl : Option (BitVec 3)}
    (h : Entered r t vec ret clearU lvl) (hregs : r.regFile = s.regFile) (hflg : r.flg = s.flg) : Entered s t vec ret clearU lvl := by
  obtain ⟨hflags, huser, hinterrupt, hframe, hhandler, hbanks, haccepts⟩ := h
  simp only [State.regFile, Prod.mk.injEq] at hregs
  obtain ⟨hbank0, hbank1, hsb, husp, hisp, hintb⟩ := hregs
  simp only [hflg, husp, hisp, hbank0, hbank1, hsb, hintb] at hflags huser hinterrupt hframe hbanks
  exact ⟨hflags, huser, hinterrupt, hframe, hhandler, hbanks, haccepts⟩

/-! ### The return (R560) -/

theorem byteOfBits_getLsbD (l : Byte) : byteOfBits (l.getLsbD 7) (l.getLsbD 6) (l.getLsbD 5) (l.getLsbD 4) (l.getLsbD 3) (l.getLsbD 2)
    (l.getLsbD 1) (l.getLsbD 0) = l := by
  revert l
  decide

theorem ofWord_append_ipl (h l : Byte) : (Flg.ofWord (h ++ l)).ipl = h.extractLsb' 4 3 :=
  BitVec.extractLsb'_append_eq_of_le (by decide)

theorem getLsbD_append_low (h l : Byte) {k : Nat} (hk : k < 8) : (h ++ l).getLsbD k = l.getLsbD k := by
  rw [BitVec.getLsbD_append, if_pos hk]

theorem ofWord_append_low (h l : Byte) : Flg.low (Flg.ofWord (h ++ l)) = l := by
  rw [← byteOfBits_getLsbD l]
  simp only [Flg.low, Flg.ofWord, getLsbD_append_low, Nat.reduceLT, byteOfBits_getLsbD]

/-- The reserved bits of FLG are dropped (R42, D9). -/
theorem toWord_ofWord_append (h l : Byte) : Flg.toWord (Flg.ofWord (h ++ l)) = (h ++ l) &&& 0x70FF := by
  have hhigh : (0#1 ++ h.extractLsb' 4 3 ++ 0#4 : Byte) = h &&& 0x70 := by
    revert h
    decide
  calc Flg.toWord (Flg.ofWord (h ++ l))
      _ = (0#1 ++ h.extractLsb' 4 3 ++ 0#4 : Byte) ++ l := by rw [Flg.toWord, ofWord_append_low, ofWord_append_ipl]
      _ = (h &&& 0x70) ++ (l &&& 0xFF) := by rw [hhigh, show (0xFF : Byte) = BitVec.allOnes 8 from rfl, BitVec.and_allOnes]
      _ = (h ++ l) &&& 0x70FF := BitVec.and_append.symm

theorem toWord_ofWord (w : Word) : Flg.toWord (Flg.ofWord w) = w &&& 0x70FF := by
  rw [← hiByte_append_loByte w]
  exact toWord_ofWord_append ..

/-- FLG is its low byte and IPL. -/
theorem flg_eq_of_low_of_ipl {f g : Flg} (hlow : f.low = g.low) (hipl : f.ipl = g.ipl) : f = g := by
  rw [← ofWord_toWord f, ← ofWord_toWord g, Flg.toWord, Flg.toWord, hlow, hipl]

section
variable (s : State)

theorem interruptReturn_regFile : (interruptReturn s).regFile = (s.setSp (s.sp + 4)).regFile := by
  have hadd : s.sp + 2 + 2 = s.sp + 4 := by bv_omega
  have hreturn : (interruptReturn s).regFile = (pop16 (pop16 s).2).2.regFile := rfl
  rw [hreturn, pop16_regFile, setSp_regFile_congr (pop16_regFile s) (by simp), setSp_setSp, pop16_snd_sp, hadd]

/-- PC and FLG from a frame in plain memory. -/
theorem interruptReturn_plain (h : ∀ a ∈ frameBelow (s.sp + 4), s.layout.inImage a = true) :
    (interruptReturn s).pc = (s.peek (zext20 (s.sp + 2) + 1)).extractLsb' 0 4 ++ (s.peek (zext20 s.sp + 1) ++ s.peek (zext20 s.sp)) ∧
    (interruptReturn s).flg = Flg.ofWord (s.peek (zext20 (s.sp + 2) + 1) ++ s.peek (zext20 (s.sp + 2))) := by
  have h2 : s.sp + 4 - 2 = s.sp + 2 := by bv_omega
  have h4 : s.sp + 4 - 4 = s.sp := by bv_omega
  rw [forall_mem_frameBelow, h2, h4] at h
  obtain ⟨hlo2, hhi2, hlo, hhi⟩ := h
  have hw : (pop16 (pop16 s).2).1 = s.peek (zext20 (s.sp + 2) + 1) ++ s.peek (zext20 (s.sp + 2)) := by
    rw [pop16_fst_plain (by simpa using hlo2) (by simpa using hhi2)]
    simp
  have hnibble (h l : Byte) : (h ++ l : Word).extractLsb' 8 4 = h.extractLsb' 0 4 := BitVec.extractLsb'_append_eq_of_le (by decide)
  rw [← hnibble _ (s.peek (zext20 (s.sp + 2))), ← hw, ← pop16_fst_plain hlo hhi]
  exact ⟨rfl, rfl⟩

/-- A return address and FLG that lie in a frame in writable memory four above SP are those taken. -/
theorem interruptReturn_of_frameBelow {p : Word} {f : Flg} {ret : Addr} (hsp : s.sp = p - 4) (hframe : FrameBelow s p f ret)
    (hw : ∀ a ∈ frameBelow p, s.layout.isWritable a = true) : (interruptReturn s).pc = ret ∧ (interruptReturn s).flg = f := by
  have hret := ret.isLt
  have hipl := f.ipl.isLt
  have h2 : s.sp + 2 = p - 2 := by rw [hsp]; bv_omega
  have h4 : s.sp + 4 = p := by rw [hsp]; bv_omega
  obtain ⟨hpc, hflg⟩ := interruptReturn_plain s (fun a ha => Layout.inImage_of_isWritable (hw a (h4 ▸ ha)))
  obtain ⟨hw2, hw3, hw0, hw1⟩ := forall_mem_frameBelow.1 hw
  obtain ⟨hlo, hmid, hlow, hhigh⟩ := hframe
  rw [h2, hsp, hlo hw0, hmid hw1, hhigh hw3] at hpc
  rw [h2, hlow hw2, hhigh hw3] at hflg
  constructor
  · rw [hpc]
    apply BitVec.eq_of_toNat_eq
    simp only [append_toNat, BitVec.extractLsb'_toNat, BitVec.toNat_ofNat, Nat.shiftRight_zero]
    omega
  · rw [hflg]
    refine flg_eq_of_low_of_ipl (ofWord_append_low ..) ((ofWord_append_ipl ..).trans (BitVec.eq_of_toNat_eq ?_))
    simp only [BitVec.extractLsb'_toNat, BitVec.toNat_ofNat, Nat.shiftRight_eq_div_pow]
    omega

end

/-- An instruction that goes on where its state stands answers that state. -/
theorem retireAt_pc {i : Instr} (h : i.selectable = true) (t : State) : retireAt i t.pc t = .next t :=
  retireAt_selectable i t.pc t h

theorem exec_reit (s : State) : exec .reit s = .next (interruptReturn s) := by
  have hexec : exec .reit s = retireAt .reit (interruptReturn s).pc (interruptReturn s) := rfl
  rw [hexec, retireAt_pc rfl]

/-- The stack pointers after REIT: four up for the one that U selects as REIT begins. -/
theorem interruptReturn_stacks (s : State) :
    (interruptReturn s).usp = (if s.flg.u then s.usp + 4 else s.usp) ∧ (interruptReturn s).isp = (if s.flg.u then s.isp else s.isp + 4) := by
  have hregs := interruptReturn_regFile s
  simp only [State.regFile, Prod.mk.injEq] at hregs
  obtain ⟨-, -, -, husp, hisp, -⟩ := hregs
  rw [husp, hisp]
  cases hu : s.flg.u <;> simp [State.setSp, State.sp, hu]

/-- Settles O53: the bytes that REIT takes, and that an entry has put there what REIT gives back. -/
theorem returnUndoesEntry : Obligations.ReturnUndoesEntry := by
  refine ⟨fun s => ⟨_, exec_reit s, rfl, ?_, fun himage => ?_⟩, fun s t vec ret clearU lvl hm ht hw => ?_⟩
  · obtain ⟨husp, hisp⟩ := interruptReturn_stacks s
    rw [husp, hisp]
    cases s.flg.u <;> exact ⟨rfl, rfl⟩
  · obtain ⟨hpc, hflg⟩ := interruptReturn_plain s himage
    rw [hpc, hflg, append_toNat, append_toNat, BitVec.extractLsb'_toNat, Nat.shiftRight_zero]
    exact ⟨by omega, toWord_ofWord_append ..⟩
  · obtain ⟨hflags, huser, hinterrupt, hframe, -, ⟨hbank0, hbank1, hsb, hintb⟩, -⟩ : Entered s t vec ret clearU lvl :=
      ht ▸ interruptSequence_entered s vec ret clearU lvl hm
    have hu : t.flg.u = (!clearU && s.flg.u) := by rw [hflags]
    have hlayout : t.layout = s.layout := by simp [ht]
    have hsp : t.sp = entryStack s clearU - 4 := by
      rw [State.sp, hu, huser, hinterrupt, entryStack]
      split <;> rfl
    obtain ⟨hpc, hflg⟩ := interruptReturn_of_frameBelow t hsp hframe (fun a ha => hlayout ▸ hw a ha)
    obtain ⟨husp, hisp⟩ := interruptReturn_stacks t
    refine ⟨_, exec_reit t, hpc, hflg, ?_, ?_, (interruptReturn_bank0 t).trans hbank0, (interruptReturn_bank1 t).trans hbank1,
      (interruptReturn_sb t).trans hsb, (interruptReturn_intb t).trans hintb⟩
    · rw [husp, hu, huser]
      split
      · exact BitVec.sub_add_cancel ..
      · rfl
    · rw [hisp, hu, hinterrupt]
      split
      · rfl
      · exact BitVec.sub_add_cancel ..

end Sys2Proof.Machine
end


section
/-! SUPPORT. The software interrupts (R520, R521, R526, R527, R570). -/

namespace Sys2Proof.Machine

section
variable (s : State)

theorem softwareInterrupt_eq {i : Instr} (h : i.selectable = true) (vec : Addr) (clearU : Bool) :
    softwareInterrupt i vec clearU s = .next (interruptSequence s vec (s.nextPc i) clearU none) :=
  retireAt_pc h _

/-- An instruction that is a software interrupt enters the handler with the address of the next instruction. -/
theorem softwareInterrupt_entered {i : Instr} (h : i.selectable = true) (hm : Memory.wf s.mem = true) {vec : Addr} {clearU : Bool}
    (hexec : exec i s = softwareInterrupt i vec clearU s) : ∃ t, exec i s = .next t ∧ Entered s t vec (s.nextPc i) clearU none :=
  ⟨_, hexec.trans (softwareInterrupt_eq s h vec clearU), interruptSequence_entered s vec _ clearU none hm⟩

theorem variableVector_eq (n : Nat) : variableVector s n = BitVec.ofNat 20 (s.intb.toNat + 4 * n) := by
  rw [variableVector, BitVec.ofNat_add, BitVec.ofNat_toNat, BitVec.setWidth_eq]

theorem execInto_of_o (h : s.flg.o = true) : exec .into s = softwareInterrupt .into 0xFFFE0 true s := if_pos h

theorem execInto_of_not_o (h : s.flg.o = false) : exec .into s = retire .into s := if_neg (by simp [h])

/-- BRK's own vector is in plain memory, so its look-up has no effect, and it is all ones if its four bytes are (R521). -/
theorem brkVector_eq : brkVector s = (if ∀ a ∈ bytesFrom 0xFFFE4 4, s.peek a = 0xFF then s.intb else 0xFFFE4, s) := by
  have himage := inImage_fixed_vector (vec := 0xFFFE4) s.layout (by decide) (by decide)
  have hones : (read32 s 0xFFFE4).1 = 0xFFFFFFFF ↔ ∀ a ∈ bytesFrom 0xFFFE4 4, s.peek a = 0xFF := by
    rw [read32_fst s himage, forall_mem_bytesFrom_four]
    have h0 := (s.peek 0xFFFE4).isLt
    have h1 := (s.peek (0xFFFE4 + 1)).isLt
    have h2 := (s.peek (0xFFFE4 + 2)).isLt
    have h3 := (s.peek (0xFFFE4 + 2 + 1)).isLt
    simp only [BitVec.toNat_eq, append_toNat, BitVec.reduceToNat]
    omega
  have hvec : variableVector s 0 = s.intb := BitVec.add_zero _
  simp only [brkVector, hones, hvec, read32_snd_plain s himage]

end

/-- Settles O48: every one of them is a software interrupt with its own vector. -/
theorem softwareInterrupts : Obligations.SoftwareInterrupts := by
  intro s hm
  refine ⟨fun n => ?_, ?_, fun ho => ?_, fun ho => ?_, ?_⟩
  · rw [← variableVector_eq]
    exact softwareInterrupt_entered s rfl hm rfl
  · exact softwareInterrupt_entered s rfl hm rfl
  · exact softwareInterrupt_entered s rfl hm (execInto_of_o s ho)
  · rw [execInto_of_not_o s ho]
    exact retire_selectable .into s rfl
  · have hexec : exec .brk s = softwareInterrupt .brk (brkVector s).1 true (brkVector s).2 := rfl
    rw [brkVector_eq] at hexec
    exact softwareInterrupt_entered s rfl hm hexec

end Sys2Proof.Machine
end


section
/-! SUPPORT. A boundary at which hardware interrupts are open: the winner is taken, and it goes before every other request (R605 to R615). -/

namespace Sys2Proof.Machine

/-! ### Acceptance -/

section
variable (s : State) {h : Hardware}

theorem step_of_winner (hopen : s.boundaryOpen) (hwinner : s.winner = some h) : step s = .next (s.accept h) := by
  obtain ⟨hreset, hinhibit, htaken⟩ := hopen
  simp [step, hreset, hinhibit, htaken, hwinner]

theorem step_of_halt (hopen : s.boundaryOpen) (hwinner : s.winner = none) (hhalt : s.waiting = true) : step s = .next s := by
  obtain ⟨hreset, hinhibit, htaken⟩ := hopen
  simp [step, hreset, hinhibit, htaken, hwinner, hhalt]

/-- The accesses of an interrupt sequence raise no request. -/
theorem interruptSequence_clears (vec ret : Addr) (clearU : Bool) (lvl : Option (BitVec 3)) :
    Requests.ClearedFrom s.req (interruptSequence s vec ret clearU lvl).req :=
  (interruptSequence_framed (c := ⟨true, [if clearU then .isp else s.spReg], false, false⟩) (framed_refl _ _ s)
    (List.mem_singleton_self _)).control.requests

theorem clearIr_getLsbD (n : Nat) : (s.clearIr n).req.ir.getLsbD n = false := by
  by_cases hn : n < 32 <;> simp [State.clearIr, hn]

theorem Requests.ClearedFrom.getLsbD_eq_false {q q' : Requests} {n : Nat} (hclear : Requests.ClearedFrom q q') (hq : q.ir.getLsbD n = false) :
    q'.ir.getLsbD n = false := by
  cases hn : q'.ir.getLsbD n
  · rfl
  · exact absurd (hclear.ir n hn) (by simp [hq])

end

/-- Settles O49: acceptance is the interrupt sequence from the state whose request has been cleared. -/
theorem hardwareInterrupts : Obligations.HardwareInterrupts := by
  intro s h hm hopen hwinner
  obtain ⟨hwaiting, htaken, -⟩ := accept_spec s h
  refine ⟨s.accept h, step_of_winner s hopen hwinner, hwaiting, htaken, ?_⟩
  have hentered (u : State) (vec : Addr) (lvl : Option (BitVec 3)) (hmem : u.mem = s.mem) (hregs : u.regFile = s.regFile)
      (hflg : u.flg = s.flg) : Entered s (interruptSequence u vec s.pc true lvl) vec s.pc true lvl :=
    (interruptSequence_entered u vec s.pc true lvl (hmem ▸ hm)).of_same_registers hregs hflg
  cases h with
  | nmi => exact ⟨hentered _ _ _ rfl rfl rfl, (interruptSequence_clears ..).nmi⟩
  | dbc => exact ⟨hentered _ _ _ rfl rfl rfl, (interruptSequence_clears ..).dbc⟩
  | watchdog => exact ⟨hentered _ _ _ rfl rfl rfl, (interruptSequence_clears ..).wdt⟩
  | peripheral n =>
    refine ⟨?_, (interruptSequence_clears ..).getLsbD_eq_false (clearIr_getLsbD _ n)⟩
    rw [← variableVector_eq]
    exact hentered _ _ _ rfl rfl rfl
  | singleStep => exact ⟨hentered _ _ _ rfl rfl rfl, interruptSequence_stepReq ..⟩
  | addressMatch => exact hentered _ _ _ rfl rfl rfl

/-- Settles O51. -/
theorem halting : Obligations.Halting :=
  ⟨step_of_halt, fun s => retire_selectable .wait { s with waiting := true } rfl, fun s => retire_selectable .nop s rfl⟩

/-! ### The peripheral request of highest priority (R612, R614) -/

section
variable {s : State}

/-- Between two peripheral sources the order of R614 is what `outranks` decides. -/
theorem outranks_iff (n m : Nat) : s.outranks n m = true ↔ s.goesBefore (.peripheral n) (.peripheral m) := by
  simp [State.outranks, State.goesBefore, Hardware.rank, eq_comm (a := s.level m)]

theorem outranks_or_eq_or_outranks (n m : Nat) : s.outranks n m = true ∨ n = m ∨ s.outranks m n = true := by
  have hlevel : s.level n = s.level m ↔ (s.level n).toNat = (s.level m).toNat := BitVec.toNat_eq
  simp only [State.outranks, Bool.or_eq_true, Bool.and_eq_true, decide_eq_true_eq, beq_iff_eq, eq_comm (a := s.level m), hlevel]
  omega

theorem outranks_trans {n m k : Nat} (h : s.outranks n m = true) (h' : s.outranks m k = true) : s.outranks n k = true := by
  have hlevel (i j : Nat) : s.level i = s.level j ↔ (s.level i).toNat = (s.level j).toNat := BitVec.toNat_eq
  simp only [State.outranks, Bool.or_eq_true, Bool.and_eq_true, decide_eq_true_eq, beq_iff_eq, hlevel] at h h' ⊢
  omega

/-- The answer for the sources of a list: the acceptable one that outranks every other one. -/
def BestOf (s : State) (l : List Nat) : Option Nat → Prop
  | none => ∀ n ∈ l, s.acceptable n = false
  | some n => n ∈ l ∧ s.acceptable n = true ∧ ∀ m ∈ l, s.acceptable m = true → m ≠ n → s.outranks n m = true

/-- One source more. -/
theorem BestOf.better {l : List Nat} {best : Option Nat} (h : BestOf s l best) (n : Nat) : BestOf s (l ++ [n]) (s.better best n) := by
  have hsplit {m : Nat} (hm : m ∈ l ++ [n]) : m ∈ l ∨ m = n := by simpa using hm
  by_cases hn : s.acceptable n = true
  · cases best with
    | none =>
      have hbetter : s.better none n = some n := if_pos hn
      rw [hbetter]
      refine ⟨by simp, hn, fun m hm hacc hne => ?_⟩
      exact absurd hacc (by simp [h m ((hsplit hm).resolve_right hne)])
    | some b =>
      obtain ⟨hb, hacceptable, hbest⟩ := h
      by_cases hnb : s.outranks n b = true
      · have hbetter : s.better (some b) n = some n := by simp [State.better, hn, hnb]
        rw [hbetter]
        refine ⟨by simp, hn, fun m hm hacc hne => ?_⟩
        by_cases hmb : m = b
        · exact hmb ▸ hnb
        · exact outranks_trans hnb (hbest m ((hsplit hm).resolve_right hne) hacc hmb)
      · have hbetter : s.better (some b) n = some b := by simp [State.better, hn, hnb]
        rw [hbetter]
        refine ⟨List.mem_append_left _ hb, hacceptable, fun m hm hacc hne => ?_⟩
        obtain hm | rfl := hsplit hm
        · exact hbest m hm hacc hne
        · exact ((outranks_or_eq_or_outranks m b).resolve_left hnb).resolve_left hne
  · have hbetter : s.better best n = best := if_neg hn
    have hold {m : Nat} (hm : m ∈ l ++ [n]) (hacc : s.acceptable m = true) : m ∈ l :=
      (hsplit hm).resolve_right fun hmn => hn (hmn ▸ hacc)
    rw [hbetter]
    cases best with
    | none => exact fun m hm => Bool.eq_false_iff.2 fun hacc => absurd hacc (by simp [h m (hold hm hacc)])
    | some b =>
      obtain ⟨hb, hacceptable, hbest⟩ := h
      exact ⟨List.mem_append_left _ hb, hacceptable, fun m hm hacc => hbest m (hold hm hacc) hacc⟩

theorem foldl_better_bestOf (l : List Nat) : BestOf s l (l.foldl s.better none) := by
  induction l using List.reverseRecOn with
  | nil => exact fun n hn => absurd hn List.not_mem_nil
  | append_singleton l n ih =>
    rw [List.foldl_append]
    exact ih.better n

theorem requests_peripheral_iff (n : Nat) : s.requests (.peripheral n) ↔ n < 32 ∧ s.acceptable n = true := by
  simp [State.requests, State.acceptable, and_assoc]

theorem requests_of_maskableWinner {n : Nat} (h : s.maskableWinner = some n) : s.requests (.peripheral n) ∧
    ∀ m, s.requests (.peripheral m) → Hardware.peripheral m ≠ .peripheral n → s.goesBefore (.peripheral n) (.peripheral m) := by
  obtain ⟨hn, hacceptable, hbest⟩ : BestOf s (List.range 32) (some n) := h ▸ foldl_better_bestOf _
  simp only [requests_peripheral_iff, ← outranks_iff]
  exact ⟨⟨List.mem_range.1 hn, hacceptable⟩, fun m ⟨hm, hacc⟩ hne =>
    hbest m (List.mem_range.2 hm) hacc fun heq => hne (heq ▸ rfl)⟩

theorem not_requests_of_maskableWinner (h : s.maskableWinner = none) (n : Nat) : ¬ s.requests (.peripheral n) := by
  have hnone : BestOf s (List.range 32) none := h ▸ foldl_better_bestOf _
  rw [requests_peripheral_iff]
  exact fun ⟨hn, hacc⟩ => absurd hacc (by simp [hnone n (List.mem_range.2 hn)])

/-! ### The winner (R614) -/

/-- No request is of a kind before rank `r`. -/
def State.NoneBefore (s : State) (r : Nat) : Prop := ∀ k, s.requests k → r ≤ Hardware.rank k

/-- Only the peripheral kind has more than one request. -/
theorem eq_of_rank_eq {h k : Hardware} (hp : Hardware.rank h ≠ 3) (heq : Hardware.rank k = Hardware.rank h) : k = h := by
  cases h <;> cases k <;> simp_all [Hardware.rank]

theorem exists_peripheral_of_rank {k : Hardware} (h : Hardware.rank k = 3) : ∃ n, k = .peripheral n := by
  cases k <;> simp_all [Hardware.rank]

theorem State.NoneBefore.succ {r : Nat} (hnone : s.NoneBefore r) (hr : ∀ k, Hardware.rank k = r → ¬ s.requests k) : s.NoneBefore (r + 1) :=
  fun k hk => Nat.lt_of_le_of_ne (hnone k hk) fun heq => hr k heq.symm hk

theorem State.NoneBefore.pass {h : Hardware} (hnone : s.NoneBefore (Hardware.rank h)) (hp : Hardware.rank h ≠ 3) (hno : ¬ s.requests h) :
    s.NoneBefore (Hardware.rank h + 1) :=
  hnone.succ fun _ hrank => eq_of_rank_eq hp hrank ▸ hno

theorem State.NoneBefore.goesBefore {h k : Hardware} (hnone : s.NoneBefore (Hardware.rank h))
    (hkind : Hardware.rank k = Hardware.rank h → s.goesBefore h k) (hk : s.requests k) : s.goesBefore h k :=
  (Nat.eq_or_lt_of_le (hnone k hk)).elim (fun heq => hkind heq.symm) .inl

/-- The answer to who is served: a request that goes before every other one, or none if there is no request. -/
def State.ServedFirst (s : State) : Option Hardware → Prop
  | some h => s.requests h ∧ ∀ k, s.requests k → k ≠ h → s.goesBefore h k
  | none => ∀ h, ¬ s.requests h

/-- The first kind that is requested, if it is not the peripheral one, goes before every other request. -/
theorem State.NoneBefore.wins {h : Hardware} (hnone : s.NoneBefore (Hardware.rank h)) (hp : Hardware.rank h ≠ 3) (hh : s.requests h) :
    s.ServedFirst (some h) :=
  ⟨hh, fun _ hk hne => hnone.goesBefore (fun hrank => absurd (eq_of_rank_eq hp hrank) hne) hk⟩

theorem State.NoneBefore.wins_peripheral {n : Nat} (hnone : s.NoneBefore 3) (h : s.maskableWinner = some n) :
    s.ServedFirst (some (.peripheral n)) := by
  obtain ⟨hn, hbest⟩ := requests_of_maskableWinner h
  refine ⟨hn, fun k hk hne => hnone.goesBefore (h := .peripheral n) (fun hrank => ?_) hk⟩
  obtain ⟨m, rfl⟩ := exists_peripheral_of_rank hrank
  exact hbest m hk hne

theorem State.NoneBefore.none (hnone : s.NoneBefore 6) : s.ServedFirst none := by
  intro k hk
  have hrank := hnone k hk
  cases k <;> simp [Hardware.rank] at hrank

end

/-- The chain of `State.winner` goes through the kinds in the order of their rank. -/
theorem winner_servedFirst (s : State) : s.ServedFirst s.winner := by
  have hnone0 : s.NoneBefore 0 := fun _ _ => Nat.zero_le _
  unfold State.winner
  split
  · next hnmi => exact hnone0.wins (h := .nmi) (by decide) hnmi
  next hnmi =>
  have hnone1 := hnone0.pass (h := .nmi) (by decide) hnmi
  split
  · next hdbc => exact hnone1.wins (h := .dbc) (by decide) hdbc
  next hdbc =>
  have hnone2 := hnone1.pass (h := .dbc) (by decide) hdbc
  split
  · next hwdt => exact hnone2.wins (h := .watchdog) (by decide) hwdt
  next hwdt =>
  have hnone3 := hnone2.pass (h := .watchdog) (by decide) hwdt
  split
  · next n hn => exact hnone3.wins_peripheral hn
  next hperipheral =>
  have hnone4 : s.NoneBefore 4 := hnone3.succ fun k hrank => by
    obtain ⟨n, rfl⟩ := exists_peripheral_of_rank hrank
    exact not_requests_of_maskableWinner hperipheral n
  split
  · next hstep => exact hnone4.wins (h := .singleStep) (by decide) hstep
  next hstep =>
  have hnone5 := hnone4.pass (h := .singleStep) (by decide) hstep
  have hmatch : (!s.waiting && s.req.addrMatch.contains s.pc) = true ↔ s.requests .addressMatch := by simp [State.requests]
  split
  · next haddr => exact hnone5.wins (h := .addressMatch) (by decide) (hmatch.1 haddr)
  · next haddr => exact (hnone5.pass (h := .addressMatch) (by decide) (mt hmatch.2 haddr)).none

/-- Settles O50. -/
theorem highestPriorityWins : Obligations.HighestPriorityWins := by
  intro s
  have hfirst := winner_servedFirst s
  exact ⟨fun h hwinner => by rwa [hwinner] at hfirst, fun hwinner => by rwa [hwinner] at hfirst⟩

end Sys2Proof.Machine
end


section
/-! SUPPORT. The step that runs an instruction, and the step that serves a reset (R615, R660). -/

namespace Sys2Proof.Machine

section
variable (s : State)

theorem step_of_runsInstr (h : s.runsInstr) : step s = runOne s := by
  obtain ⟨hreset, hinhibit | htaken | ⟨hwinner, hwaiting⟩⟩ := h
  · simp [step, hreset, hinhibit]
  · simp [step, hreset, htaken]
  · by_cases hshut : (s.inhibitOnce || s.boundaryTaken) = true <;> simp [step, hreset, hshut, hwinner, hwaiting]

theorem runOne_of_decode {i : Instr} {rest : List Byte} {t : State} (hdecode : decode (s.fetch s.pc fetchLength) = .ok (i, rest))
    (hexec : exec i s.beginInstr = .next t) : runOne s = .next (t.endInstr i s) := by
  simp [runOne, hdecode, hexec]

theorem step_of_reset (h : s.resetReq = true) : step s = .next s.doReset := if_pos h

theorem doReset_reg (b : Bool) (r : Reg) : s.doReset.reg b r = State.reset.reg b r := by
  cases b <;> cases r <;> rfl

/-- PC after a reset is the reset vector, which lies in plain memory. -/
theorem doReset_pc : s.doReset.pc.toNat = s.vectorAt 0xFFFFC :=
  read32_handler s (inImage_fixed_vector s.layout (by decide) (by decide))

end

/-- Settles O6: a well-formed instruction completes. -/
theorem stepRunsDecoded : Obligations.StepRunsDecoded := by
  intro s i rest hruns hdecode hwf
  obtain ⟨t, hexec⟩ := (wellFormedCompletes i s.beginInstr).1 hwf
  exact ⟨t, hexec, (step_of_runsInstr s hruns).trans (runOne_of_decode s hdecode hexec)⟩

/-- Settles O10: the registers and flags are those of `State.reset`. -/
theorem resetStep : Obligations.ResetStep := fun s h =>
  ⟨s.doReset, step_of_reset s h, fun b r => (doReset_reg s b r).trans (reset_reg b r), reset_flag, rfl, rfl, rfl, fun _ => rfl, doReset_pc s⟩

/-! ### One flag (R524, R525, R541) -/

theorem putFlag_ipl (f : Flag) (v : Bool) (g : Flg) : (putFlag f v g).ipl = g.ipl := by
  cases f <;> rfl

theorem flag_putFlag (f : Flag) (v : Bool) (g : Flg) (x : Flag) : Flg.flag (putFlag f v g) x = if x = f then v else Flg.flag g x := by
  cases f <;> cases x <;> rfl

/-- Settles O54. -/
theorem flagInstructions : Obligations.FlagInstructions := by
  intro s
  refine ⟨fun f => ?_, fun f => ?_, fun l => ?_⟩
  · exact completes_of_retire rfl rfl rfl ⟨putFlag_ipl f true s.flg, flag_putFlag f true s.flg⟩
  · exact completes_of_retire rfl rfl rfl ⟨putFlag_ipl f false s.flg, flag_putFlag f false s.flg⟩
  · exact completes_of_retire rfl rfl rfl rfl

end Sys2Proof.Machine
end


section
/-! SUPPORT. The I value of acceptance (R612, R670): only interrupt sequences and REIT set it while an instruction runs. -/

namespace Sys2Proof.Machine

/-! ### Operations -/

section
variable (s : State)

@[simp] theorem setCreg_iAccept (c : CReg) (v : Word) : (s.setCreg c v).iAccept = s.iAccept := by
  cases c <;> simp [State.setCreg]

@[simp] theorem readBit_snd_iAccept (p : BitPlace) : (readBit s p).2.iAccept = s.iAccept := by
  cases p <;> simp [readBit]

@[simp] theorem readIndA_snd_iAccept (x : IndA) : (readIndA s x).2.iAccept = s.iAccept := by
  cases x <;> simp [readIndA]

@[simp] theorem readIndW_snd_iAccept (x : IndW) : (readIndW s x).2.iAccept = s.iAccept := by
  cases x <;> simp [readIndW]

@[simp] theorem specialPageTarget_snd_iAccept (n : Byte) : (specialPageTarget s n).2.iAccept = s.iAccept := by
  simp [specialPageTarget]

@[simp] theorem updateG_iAccept (op : Binary) (sz : Size) (src dst : Operand) : (updateG op sz src dst s).iAccept = s.iAccept := by
  cases sz <;> simp [updateG]

@[simp] theorem updateImm_iAccept (op : Binary) (imm : Imm) (dst : Operand) : (updateImm op imm dst s).iAccept = s.iAccept := by
  cases imm <;> simp [updateImm]

@[simp] theorem updateQ_iAccept (op : Binary) (sz : Size) (imm : BitVec 4) (dst : Operand) :
    (updateQ op sz imm dst s).iAccept = s.iAccept := by
  cases sz <;> simp [updateQ]

@[simp] theorem updateOne_iAccept (op : Binary) (sz : Size) (dst : Operand) : (updateOne op sz dst s).iAccept = s.iAccept := by
  cases sz <;> simp [updateOne]

@[simp] theorem compareG_iAccept (op : Compare) (sz : Size) (src dst : Operand) : (compareG op sz src dst s).iAccept = s.iAccept := by
  cases sz <;> simp [compareG]

@[simp] theorem compareImm_iAccept (op : Compare) (imm : Imm) (dst : Operand) : (compareImm op imm dst s).iAccept = s.iAccept := by
  cases imm <;> simp [compareImm]

@[simp] theorem compareQ_iAccept (op : Compare) (sz : Size) (imm : BitVec 4) (dst : Operand) :
    (compareQ op sz imm dst s).iAccept = s.iAccept := by
  cases sz <;> simp [compareQ]

@[simp] theorem shiftR1H_iAccept (k : ShiftKind) (sz : Size) (dst : Operand) : (shiftR1H k sz dst s).iAccept = s.iAccept := by
  unfold shiftR1H
  dsimp only
  split
  · rfl
  · split <;> simp

@[simp] theorem shiftLongImm_iAccept (k : ShiftKind) (p : Pair) (c : ShiftCount) : (shiftLongImm k p c s).iAccept = s.iAccept := by
  simp [shiftLongImm]

@[simp] theorem shiftLongR1H_iAccept (k : ShiftKind) (p : Pair) : (shiftLongR1H k p s).iAccept = s.iAccept := by
  unfold shiftLongR1H
  dsimp only
  split
  · rfl
  · split <;> simp

@[simp] theorem move8_iAccept (x : Byte) (dst : Operand) : (move8 x dst s).iAccept = s.iAccept := by
  cases dst <;> simp [move8]

@[simp] theorem move16_iAccept (x : Word) (dst : Operand) : (move16 x dst s).iAccept = s.iAccept := by
  simp [move16]

@[simp] theorem moveG_iAccept (sz : Size) (src dst : Operand) : (moveG sz src dst s).iAccept = s.iAccept := by
  cases sz <;> simp [moveG]

@[simp] theorem moveImm_iAccept (imm : Imm) (dst : Operand) : (moveImm imm dst s).iAccept = s.iAccept := by
  cases imm <;> simp [moveImm]

@[simp] theorem moveFrom_iAccept (sz : Size) (a : Addr) (dst : Operand) : (moveFrom sz a dst s).iAccept = s.iAccept := by
  cases sz <;> simp [moveFrom]

@[simp] theorem moveToSp_iAccept (sz : Size) (src : Operand) (d : Byte) : (moveToSp sz src d s).iAccept = s.iAccept := by
  cases sz <;> simp [moveToSp]

@[simp] theorem storeExtended_iAccept (sz : Size) (src : Operand) (a : Addr) : (storeExtended sz src a s).iAccept = s.iAccept := by
  cases sz <;> simp [storeExtended]

@[simp] theorem exchange_iAccept (sz : Size) (r : DReg) (dst : Operand) : (exchange sz r dst s).iAccept = s.iAccept := by
  cases sz <;> simp [exchange]

@[simp] theorem popOperand_iAccept (sz : Size) (dst : Operand) : (popOperand sz dst s).iAccept = s.iAccept := by
  cases sz <;> simp [popOperand]

@[simp] theorem pushOperand_iAccept (sz : Size) (src : Operand) : (pushOperand sz src s).iAccept = s.iAccept := by
  cases sz <;> simp [pushOperand]

@[simp] theorem updateBit_iAccept (f : Bool → Bool) (p : BitPlace) : (updateBit f p s).iAccept = s.iAccept := by
  cases p <;> simp [updateBit]

@[simp] theorem testAndPut_iAccept (v : Bool) (p : BitPlace) : (testAndPut v p s).iAccept = s.iAccept := by
  simp [testAndPut]

@[simp] theorem combineBit_iAccept (f : Bool → Bool → Bool) (p : BitPlace) : (combineBit f p s).iAccept = s.iAccept := by
  simp [combineBit]

@[simp] theorem testBit_iAccept (c : Bool → Bool) (p : BitPlace) : (testBit c p s).iAccept = s.iAccept := by
  simp [testBit]

@[simp] theorem decimal8_iAccept (op : Decimal) (carry : Nat → Int → Bool) (x : Byte) : (decimal8 op carry x s).iAccept = s.iAccept := by
  unfold decimal8
  split <;> simp

@[simp] theorem decimal16_iAccept (op : Decimal) (carry : Nat → Int → Bool) (x : Word) : (decimal16 op carry x s).iAccept = s.iAccept := by
  unfold decimal16
  split <;> simp

@[simp] theorem decimalReg_iAccept (op : Decimal) (carry : Nat → Int → Bool) (sz : Size) : (decimalReg op carry sz s).iAccept = s.iAccept := by
  cases sz <;> simp [decimalReg]

@[simp] theorem decimalImm_iAccept (op : Decimal) (carry : Nat → Int → Bool) (imm : Imm) :
    (decimalImm op carry imm s).iAccept = s.iAccept := by
  cases imm <;> simp [decimalImm]

@[simp] theorem addToSp_iAccept (v : Word) : (addToSp v s).iAccept = s.iAccept := by
  simp [addToSp]

@[simp] theorem extendByte_iAccept (dst : Operand) : (extendByte dst s).iAccept = s.iAccept := by
  unfold extendByte
  split <;> simp

@[simp] theorem divide8_iAccept (k : DivKind) (x : Byte) : (divide8 k x s).iAccept = s.iAccept := by
  unfold divide8
  split <;> simp

@[simp] theorem divide16_iAccept (k : DivKind) (x : Word) : (divide16 k x s).iAccept = s.iAccept := by
  unfold divide16
  split <;> simp

@[simp] theorem divideG_iAccept (k : DivKind) (sz : Size) (src : Operand) : (divideG k sz src s).iAccept = s.iAccept := by
  cases sz <;> simp [divideG]

@[simp] theorem divideImm_iAccept (k : DivKind) (imm : Imm) : (divideImm k imm s).iAccept = s.iAccept := by
  cases imm <;> simp [divideImm]

@[simp] theorem multiply8_iAccept (signed : Bool) (x : Byte) (dst : Operand) : (multiply8 signed x dst s).iAccept = s.iAccept := by
  unfold multiply8
  split <;> simp

@[simp] theorem multiply16_iAccept (signed : Bool) (x : Word) (dst : Operand) : (multiply16 signed x dst s).iAccept = s.iAccept := by
  unfold multiply16
  split <;> simp

@[simp] theorem multiplyG_iAccept (signed : Bool) (sz : Size) (src dst : Operand) : (multiplyG signed sz src dst s).iAccept = s.iAccept := by
  cases sz <;> simp [multiplyG]

@[simp] theorem multiplyImm_iAccept (signed : Bool) (imm : Imm) (dst : Operand) : (multiplyImm signed imm dst s).iAccept = s.iAccept := by
  cases imm <;> simp [multiplyImm]

@[simp] theorem rmpaSum_snd_iAccept (sz : Size) : (rmpaSum sz s).2.iAccept = s.iAccept := by
  cases sz <;> simp [rmpaSum]

@[simp] theorem setAccumulator_iAccept (sz : Size) (acc : Int) : (setAccumulator sz acc s).iAccept = s.iAccept := by
  cases sz <;> simp [setAccumulator]

@[simp] theorem copyElement_iAccept (sz : Size) : (copyElement sz s).iAccept = s.iAccept := by
  cases sz <;> simp [copyElement]

end

/-! ### Instructions -/

/-- If the instruction completes, the I value of acceptance is still that of `s`. -/
def KeepsAcceptance (s : State) (r : Result) : Prop := ∀ t, r = .next t → t.iAccept = s.iAccept

section
variable {s u : State} {i : Instr}

theorem retireAt_keepsAcceptance {a : Addr} (h : u.iAccept = s.iAccept) : KeepsAcceptance s (retireAt i a u) := by
  intro t ht
  obtain ⟨-, rfl⟩ := (retireAt_next i a u t).1 ht
  exact h

theorem retire_keepsAcceptance (h : u.iAccept = s.iAccept) : KeepsAcceptance s (retire i u) := retireAt_keepsAcceptance h

theorem endIteration_keepsAcceptance {v : State} (h : u.iAccept = s.iAccept) : KeepsAcceptance s (endIteration i v u) := by
  have hcount := (setWord_iAccept u .r1hR3 (v.word .r1hR3 - 1)).trans h
  unfold endIteration
  dsimp only
  split
  · exact retire_keepsAcceptance hcount
  · exact retireAt_keepsAcceptance hcount

end

section
variable (s : State)

theorem execSmovf_keepsAcceptance (sz : Size) : KeepsAcceptance s (execSmovf sz s) := by
  unfold execSmovf
  split
  · exact retire_keepsAcceptance rfl
  · refine endIteration_keepsAcceptance ?_
    simp only [setAreg_iAccept]
    split <;> simp

theorem execSmovb_keepsAcceptance (sz : Size) : KeepsAcceptance s (execSmovb sz s) := by
  unfold execSmovb
  split
  · exact retire_keepsAcceptance rfl
  · refine endIteration_keepsAcceptance ?_
    simp only [setAreg_iAccept]
    split <;> simp

theorem execSstr_keepsAcceptance (sz : Size) : KeepsAcceptance s (execSstr sz s) := by
  unfold execSstr
  split
  · exact retire_keepsAcceptance rfl
  · cases sz <;> exact endIteration_keepsAcceptance (by simp)

theorem execRmpa_keepsAcceptance (sz : Size) : KeepsAcceptance s (execRmpa sz s) := by
  unfold execRmpa
  split
  · exact retire_keepsAcceptance rfl
  · dsimp only
    split
    · split
      · exact retire_keepsAcceptance (by simp)
      · exact retireAt_keepsAcceptance (by simp)
    · exact retire_keepsAcceptance (by simp)

/-- The instructions that run an interrupt sequence or return from one. -/
def Instr.setsAcceptance : Instr → Bool
  | .reit | .brk | .und | .int _ | .into => true
  | _ => false

/-- R670, instruction by instruction: every other instruction leaves the I value with which it began. -/
theorem exec_keepsAcceptance (i : Instr) (h : Instr.setsAcceptance i = false) : KeepsAcceptance s (exec i s) := by
  cases i with dsimp only [exec]
  -- an interrupt sequence or the return from one
  | reit | brk | und | int | into => exact absurd h nofun
  -- a destination of an arithmetic, logical or shift instruction
  | addG | subG | adcG | sbbG | andG | orG | xorG | addSSrcHalf | subSSrcHalf | andSSrcHalf | orSSrcHalf =>
    exact retire_keepsAcceptance (updateG_iAccept ..)
  | addImm | subImm | adcImm | sbbImm | andImm | orImm | xorImm => exact retire_keepsAcceptance (updateImm_iAccept ..)
  | addQ => exact retire_keepsAcceptance (updateQ_iAccept ..)
  | adjnz | sbjnz => exact retireAt_keepsAcceptance (updateQ_iAccept ..)
  | addSImm | subSImm | andSImm | orSImm => exact retire_keepsAcceptance (update8_iAccept ..)
  | neg | adcf | notG | rolc | rorc | rotImm | shlImm | shaImm | abs | incW | decW | incB | decB | notS =>
    exact retire_keepsAcceptance (updateOne_iAccept ..)
  | rotR1H | shlR1H | shaR1H => exact retire_keepsAcceptance (shiftR1H_iAccept ..)
  | shlLImm | shaLImm => exact retire_keepsAcceptance (shiftLongImm_iAccept ..)
  | shlLR1H | shaLR1H => exact retire_keepsAcceptance (shiftLongR1H_iAccept ..)
  | addQSp => exact retire_keepsAcceptance (addToSp_iAccept ..)
  | addImmSp imm => cases imm <;> exact retire_keepsAcceptance (addToSp_iAccept ..)
  | cmpSSrcHalf | cmpG | tstG => exact retire_keepsAcceptance (compareG_iAccept ..)
  | cmpSImm => exact retire_keepsAcceptance (compare8_iAccept ..)
  | cmpImm | tstImm => exact retire_keepsAcceptance (compareImm_iAccept ..)
  | cmpQ => exact retire_keepsAcceptance (compareQ_iAccept ..)
  | extsB => exact retire_keepsAcceptance (extendByte_iAccept ..)
  | extsW => exact retire_keepsAcceptance (setPair_iAccept ..)
  | daddReg | dsubReg | dadcReg | dsbbReg => exact retire_keepsAcceptance (decimalReg_iAccept ..)
  | daddImm | dsubImm | dadcImm | dsbbImm => exact retire_keepsAcceptance (decimalImm_iAccept ..)
  | mulG | muluG => exact retire_keepsAcceptance (multiplyG_iAccept ..)
  | mulImm | muluImm => exact retire_keepsAcceptance (multiplyImm_iAccept ..)
  | div | divu | divx => exact retire_keepsAcceptance (divideG_iAccept ..)
  | divImm | divuImm | divxImm => exact retire_keepsAcceptance (divideImm_iAccept ..)
  | rmpa => exact execRmpa_keepsAcceptance s _
  -- moves, bits, strings
  | movG | movSSrcHalf | movSSrcA => exact retire_keepsAcceptance (moveG_iAccept ..)
  | movGImm => exact retire_keepsAcceptance (moveImm_iAccept ..)
  | movQ sz => cases sz <;> exact retire_keepsAcceptance (by simp)
  | ldeAbs20 | ldeDsp20 | ldeA1A0 | movFromSp => exact retire_keepsAcceptance (moveFrom_iAccept ..)
  | movWSImmA => exact retire_keepsAcceptance (move16_iAccept ..)
  | movSHalfDest | movBSImmA | movZ | movSImm => exact retire_keepsAcceptance (move8_iAccept ..)
  | steAbs20 | steDsp20 | steA1A0 => exact retire_keepsAcceptance (storeExtended_iAccept ..)
  | movToSp => exact retire_keepsAcceptance (moveToSp_iAccept ..)
  | xchg => exact retire_keepsAcceptance (exchange_iAccept ..)
  | mova m dst => cases dst <;> exact retire_keepsAcceptance (by simp)
  | stz | stnz => exact retire_keepsAcceptance (by split <;> simp)
  | stzx => exact retire_keepsAcceptance (writeDest8_iAccept ..)
  | movDirFromR0L | movDirToR0L => exact retire_keepsAcceptance (by simp)
  | bclrS | bsetS | bnotS | bmcnd | bclrG | bsetG | bnotG => exact retire_keepsAcceptance (updateBit_iAccept ..)
  | btstc | btsts => exact retire_keepsAcceptance (testAndPut_iAccept ..)
  | btstS | bntst | btstG => exact retire_keepsAcceptance (testBit_iAccept ..)
  | band | bnand | bor | bnor | bxor | bnxor => exact retire_keepsAcceptance (combineBit_iAccept ..)
  | smovf => exact execSmovf_keepsAcceptance s _
  | smovb => exact execSmovb_keepsAcceptance s _
  | sstr => exact execSstr_keepsAcceptance s _
  -- the stack, the control registers, the flags
  | pushBS => exact retire_keepsAcceptance (push8_iAccept ..)
  | pushWS | pusha | pushc => exact retire_keepsAcceptance (push16_iAccept ..)
  | pushImm imm => cases imm <;> exact retire_keepsAcceptance (by simp)
  | pushG => exact retire_keepsAcceptance (pushOperand_iAccept ..)
  | popG | popBS | popWS => exact retire_keepsAcceptance (popOperand_iAccept ..)
  | pushm | popm | ldctx | stctx | enter | ldc | ldcImm | ldintb => exact retire_keepsAcceptance (by simp)
  | popc => exact retire_keepsAcceptance (by rw [inhibit_iAccept]; split <;> simp)
  | stc => exact retire_keepsAcceptance (writeDest16_iAccept ..)
  | stcPc dst => cases dst <;> exact retire_keepsAcceptance (by simp)
  | ldipl | bmcndC | fset | fclr => exact retire_keepsAcceptance (setFlg_iAccept ..)
  | nop | wait => exact retire_keepsAcceptance rfl
  -- jumps, calls, returns
  | jmpS | jcndShort | jcndLong | jmpW | jmpA | jmpB => exact retireAt_keepsAcceptance rfl
  | jmps => exact retireAt_keepsAcceptance (specialPageTarget_snd_iAccept ..)
  | jmpiA => exact retireAt_keepsAcceptance (readIndA_snd_iAccept ..)
  | jmpiW => exact retireAt_keepsAcceptance (readIndW_snd_iAccept ..)
  | jsrW | jsrA => exact retireAt_keepsAcceptance (pushRet_iAccept ..)
  | jsrs | jsriA | jsriW | exitd => exact retireAt_keepsAcceptance (by simp)
  | rts => exact retireAt_keepsAcceptance (popRet_snd_iAccept ..)

end

/-! ### Timing (R670) -/

theorem interruptReturn_iAccept (s : State) : (interruptReturn s).iAccept = (interruptReturn s).flg.i := rfl

theorem softwareInterrupt_acceptance {s t : State} {i : Instr} {vec : Addr} {clearU : Bool} (h : softwareInterrupt i vec clearU s = .next t) :
    t.iAccept = false := by
  obtain ⟨-, rfl⟩ := (retireAt_next i _ _ t).1 h
  rfl

theorem execInto_acceptance {s t : State} (h : execInto s = .next t) : t.iAccept = (s.iAccept && !s.flg.o) := by
  unfold execInto at h
  split at h
  · next ho => simpa [ho] using softwareInterrupt_acceptance h
  · next ho => simpa [ho] using retire_keepsAcceptance rfl t h

/-- The I value that an instruction leaves for the coming boundary, if it was I as it stood when the instruction began. -/
def Instr.acceptanceAfter (i : Instr) (s t : State) : Bool :=
  match i with
  | .reit => t.flg.i
  | .brk => false
  | .und => false
  | .int _ => false
  | .into => s.flg.i && !s.flg.o
  | _ => s.flg.i

theorem exec_acceptance {i : Instr} {s t : State} (h : exec i s = .next t) (hi : s.iAccept = s.flg.i) :
    t.iAccept = Instr.acceptanceAfter i s t := by
  by_cases hsets : Instr.setsAcceptance i = true
  · cases i with dsimp only [exec] at h
    | reit =>
      obtain ⟨-, rfl⟩ := (retireAt_next ..).1 h
      exact interruptReturn_iAccept s
    | brk | und | int => exact softwareInterrupt_acceptance h
    | into => exact (execInto_acceptance h).trans (by rw [hi]; rfl)
    | _ => exact absurd hsets (by simp [Instr.setsAcceptance])
  · have hkept : Instr.acceptanceAfter i s t = s.flg.i := by
      unfold Instr.acceptanceAfter
      split
      iterate 5 exact absurd rfl hsets
      rfl
    rw [hkept, ← hi]
    exact exec_keepsAcceptance s i (by simpa using hsets) t h

/-- A step that runs an instruction is that instruction from the prepared state. -/
theorem exec_of_step {s t : State} {i : Instr} {rest : List Byte} (hruns : s.runsInstr)
    (hdecode : decode (s.fetch s.pc fetchLength) = .ok (i, rest)) (hstep : step s = .next t) :
    ∃ u, exec i s.beginInstr = .next u ∧ t = u.endInstr i s := by
  rw [step_of_runsInstr s hruns] at hstep
  obtain ⟨j, rest', u, hdecode', hexec, rfl⟩ := runOne_next hstep
  rw [hdecode] at hdecode'
  cases hdecode'
  exact ⟨u, hexec, rfl⟩

/-- Settles O52: `exec_acceptance` from the prepared state, in which I as it stands is the I value of acceptance. -/
theorem interruptEnableTiming : Obligations.InterruptEnableTiming := by
  refine ⟨fun s t i rest hruns hdecode hstep => ?_, fun s t h hopen hwinner hstep => ?_, fun s n h => ?_⟩
  · obtain ⟨u, hexec, rfl⟩ := exec_of_step hruns hdecode hstep
    have haccept := exec_acceptance hexec rfl
    clear hdecode hexec
    cases i <;> exact haccept
  · rw [step_of_winner s hopen hwinner] at hstep
    cases hstep
    obtain ⟨-, -, haccept, -⟩ := accept_spec s h
    exact haccept
  · simpa [State.acceptable, and_assoc] using h

end Sys2Proof.Machine
end


section
/-! SUPPORT. ENTER and EXITD (R522, R523). -/

namespace Sys2Proof.Machine

section
variable (s : State)

/-! ### ENTER -/

/-- The state that ENTER leaves, but for PC. -/
def enterFrame (n : Byte) : State := ((push16 s s.fb).setFb (s.sp - 2)).setSp (s.sp - 2 - n.zeroExtend 16)

theorem exec_enter (n : Byte) : exec (.enter n) s = retire (.enter n) (enterFrame s n) := by
  have hexec : exec (.enter n) s = retire (.enter n)
    (((push16 s s.fb).setFb (push16 s s.fb).sp).setSp (((push16 s s.fb).setFb (push16 s s.fb).sp).sp - n.zeroExtend 16)) := rfl
  rw [hexec, setFb_sp, push16_sp, enterFrame]

theorem enterFrame_sp (n : Byte) : (enterFrame s n).sp = s.sp - 2 - BitVec.ofNat 16 n.toNat := by
  rw [BitVec.ofNat_toNat]
  exact setSp_sp ..

theorem enterFrame_fb (n : Byte) : (enterFrame s n).fb = s.sp - 2 := by
  simp [enterFrame]

/-- What EXITD needs to know of a state after ENTER. -/
structure FrameOpened (s t : State) : Prop where
  fb : t.fb = s.sp - 2
  layout : t.layout = s.layout
  peek : ∀ a, t.peek a = (push16 s s.fb).peek a

theorem frameOpened (n : Byte) (p : Addr) : FrameOpened s { enterFrame s n with pc := p } where
  fb := enterFrame_fb s n
  layout := by simp [enterFrame]
  peek a := by simp [enterFrame, State.peek]

/-! ### EXITD -/

/-- EXITD before it returns: SP above the saved FB, and FB what was saved. -/
def leaveFrame : State := (pop16 (s.setSp s.fb)).2.setFb (pop16 (s.setSp s.fb)).1

theorem leaveFrame_sp : (leaveFrame s).sp = s.fb + 2 := by
  simp [leaveFrame]

@[simp] theorem leaveFrame_layout : (leaveFrame s).layout = s.layout := by
  simp [leaveFrame]

@[simp] theorem leaveFrame_peek (a : Addr) : (leaveFrame s).peek a = s.peek a := by
  simp [leaveFrame]

theorem popRet_snd_fb : (popRet s).2.fb = s.fb := by
  simp [State.fb, State.bank]

theorem retireAt_popRet {i : Instr} (h : i.selectable = true) :
    ∃ t, retireAt i (popRet s).1 (popRet s).2 = .next t ∧ t.pc = (popRet s).1 ∧ t.sp = s.sp + 3 ∧ t.fb = s.fb :=
  ⟨_, retireAt_selectable _ _ _ h, rfl, popRet_snd_sp s, popRet_snd_fb s⟩

theorem exec_exitd : exec .exitd s = retireAt .exitd (popRet (leaveFrame s)).1 (popRet (leaveFrame s)).2 := rfl

theorem leaveFrame_fb_plain (h : ∀ a ∈ bytesFrom (zext20 s.fb) 2, s.layout.inImage a = true) :
    (leaveFrame s).fb = s.peek (zext20 s.fb + 1) ++ s.peek (zext20 s.fb) := by
  simp only [mem_bytesFrom_two, forall_eq_or_imp, forall_eq] at h
  obtain ⟨hlo, hhi⟩ := h
  rw [leaveFrame, setFb_fb, pop16_fst_plain (by simpa using hlo) (by simpa using hhi)]
  simp

theorem exitd_pc_plain (h : ∀ a ∈ returnBelow (s.fb + 5), s.layout.inImage a = true) : (popRet (leaveFrame s)).1.toNat =
    (s.peek (zext20 (s.fb + 2))).toNat + 256 * (s.peek (zext20 (s.fb + 2) + 1)).toNat + 65536 * ((s.peek (zext20 (s.fb + 4))).toNat % 16) := by
  have h1 : s.fb + 5 - 1 = s.fb + 4 := by bv_omega
  have h3 : s.fb + 5 - 3 = s.fb + 2 := by bv_omega
  have h4 : s.fb + 2 + 2 = s.fb + 4 := by bv_omega
  rw [forall_mem_returnBelow, h1, h3] at h
  obtain ⟨htop, hlo, hmid⟩ := h
  rw [popRet_fst_plain, leaveFrame_sp, h4]
  · simp only [leaveFrame_peek]
  all_goals rw [leaveFrame_layout, leaveFrame_sp]
  · exact hlo
  · exact hmid
  · exact h4 ▸ htop

end

/-! ### EXITD after ENTER -/

section
variable {s t : State}

/-- What lies above SP is apart from the word that ENTER pushes. -/
theorem FrameOpened.peek_above (h : FrameOpened s t) {j : Nat} (hj : j < 32767) :
    t.peek (wordAddr s.sp j) = s.peek (wordAddr s.sp j) ∧ t.peek (wordAddr s.sp j + 1) = s.peek (wordAddr s.sp j + 1) := by
  have hapart := wordAddr_apart (s.sp - 2) hj
  rw [BitVec.sub_add_cancel] at hapart
  obtain ⟨h00, h01, h10, h11⟩ := hapart
  rw [h.peek, h.peek]
  constructor <;> apply push16_peek_outside <;> simp only [wordBelow, mem_bytesFrom_two, not_or]
  · exact ⟨h00, h01⟩
  · exact ⟨h10, h11⟩

theorem FrameOpened.leaveFrame_fb (h : FrameOpened s t) (hm : Memory.wf s.mem = true) (hw : ∀ a ∈ wordBelow s.sp, s.layout.isWritable a = true) :
    (leaveFrame t).fb = s.fb := by
  have himage : ∀ a ∈ bytesFrom (zext20 t.fb) 2, t.layout.inImage a = true := by
    rw [h.fb, h.layout]
    exact fun a ha => Layout.inImage_of_isWritable (hw a ha)
  rw [leaveFrame_fb_plain _ himage, h.fb, h.peek, h.peek]
  simp only [wordBelow, mem_bytesFrom_two, forall_eq_or_imp, forall_eq] at hw
  obtain ⟨hwlo, hwhi⟩ := hw
  obtain ⟨hlo, hhi⟩ := push16_memIs hm s.fb
  rw [hlo (by simpa using hwlo), hhi (by simpa using hwhi)]
  exact hiByte_append_loByte s.fb

theorem FrameOpened.exitd_pc (h : FrameOpened s t) (himage : ∀ a ∈ returnBelow (s.sp + 3), s.layout.inImage a = true) :
    (popRet (leaveFrame t)).1 = (popRet s).1 := by
  have h1 : s.sp + 3 - 1 = s.sp + 2 := by bv_omega
  have h3 : s.sp + 3 - 3 = s.sp := by bv_omega
  have hfb2 : s.sp - 2 + 2 = s.sp := by bv_omega
  have hfb4 : s.sp - 2 + 4 = s.sp + 2 := by bv_omega
  have hfb5 : s.sp - 2 + 5 = s.sp + 3 := by bv_omega
  obtain ⟨hlo, hmid⟩ := h.peek_above (j := 0) (by decide)
  obtain ⟨htop, -⟩ := h.peek_above (j := 1) (by decide)
  have hnext : wordAddr s.sp 1 = zext20 (s.sp + 2) := rfl
  rw [wordAddr_zero] at hlo hmid
  rw [hnext] at htop
  apply BitVec.eq_of_toNat_eq
  rw [exitd_pc_plain _ (by rwa [h.fb, h.layout, hfb5]), h.fb, hfb2, hfb4, hlo, hmid, htop]
  rw [forall_mem_returnBelow, h1, h3] at himage
  obtain ⟨himagetop, himagelo, himagemid⟩ := himage
  exact (popRet_fst_plain s himagelo himagemid himagetop).symm

end

/-- Settles O47: EXITD after ENTER finds SP, FB and the return address where they were. -/
theorem stackFrames : Obligations.StackFrames := by
  refine ⟨fun s n hm => ?_, fun s => ?_, fun s t n hm hexec hw himage => ?_⟩
  · refine completes_of_retire (exec_enter s n) rfl (by simp [enterFrame]) ⟨enterFrame_fb s n, enterFrame_sp s n, ?_⟩
    exact ((stored_push16 hm s.fb).of_same_image (by simp [enterFrame]) (by simp [enterFrame]) (by simp [enterFrame])).with_pc
  · obtain ⟨t, hexec, hpc, hsp, hfb⟩ := retireAt_popRet (leaveFrame s) (i := .exitd) rfl
    refine ⟨t, (exec_exitd s).trans hexec, ?_, fun himage => ?_⟩
    · rw [hsp, leaveFrame_sp]
      bv_omega
    · rw [hpc, hfb]
      exact ⟨leaveFrame_fb_plain s fun a ha => himage a (List.mem_append_left _ ha),
        exitd_pc_plain s fun a ha => himage a (List.mem_append_right _ ha)⟩
  · rw [exec_enter, retire_selectable _ _ rfl] at hexec
    have hopened : FrameOpened s t := Host.Outcome.next.inj hexec ▸ frameOpened s n _
    obtain ⟨u, hexitd, hpc, hsp, hfb⟩ := retireAt_popRet (leaveFrame t) (i := .exitd) rfl
    obtain ⟨v, hrts, hpc', hsp', -⟩ := retireAt_popRet s (i := .rts) rfl
    refine ⟨u, v, (exec_exitd t).trans hexitd, hrts, ?_, ?_, hfb.trans (hopened.leaveFrame_fb hm hw)⟩
    · rw [hpc, hpc', hopened.exitd_pc himage]
    · rw [hsp, hsp', leaveFrame_sp, hopened.fb, BitVec.sub_add_cancel]

end Sys2Proof.Machine
end


section
/-! SUPPORT. LDC, STC and POPC (R530, R535 to R537, R553, R565, R566). -/

namespace Sys2Proof.Machine

/-! ### Loading a control register -/

section
variable {s u t : State} {v : Word} {c : CReg}

@[simp] theorem setCreg_pc (s : State) (c : CReg) (v : Word) : (s.setCreg c v).pc = s.pc := by
  cases c <;> simp [State.setCreg]

theorem setCreg_usp (s : State) (h : c ≠ .sp) (v : Word) : (s.setCreg c v).usp = s.usp := by
  cases c <;> simp [State.setCreg] at h ⊢

theorem setCreg_isp (s : State) (h : c ≠ .sp) (h' : c ≠ .isp) (v : Word) : (s.setCreg c v).isp = s.isp := by
  cases c <;> simp [State.setCreg] at h h' ⊢

theorem setSp_selects (h : u.flg.u = s.flg.u) (v : Word) : if s.flg.u then (u.setSp v).usp = v else (u.setSp v).isp = v := by
  cases hu : s.flg.u <;> simp [State.setSp, h, hu]

theorem setCreg_loads (hintb : u.intb = s.intb) (hu : u.flg.u = s.flg.u) (v : Word) (c : CReg) : LoadsCreg s (u.setCreg c v) v c := by
  cases c with
  | intbl =>
    have happend : (u.intb.extractLsb' 16 4 ++ v).toNat = s.intb.toNat / 65536 * 65536 + v.toNat := by
      have hs := s.intb.isLt
      rw [hintb, append_toNat, BitVec.extractLsb'_toNat, Nat.shiftRight_eq_div_pow]
      omega
    exact happend
  | intbh =>
    have happend : (v.extractLsb' 0 4 ++ u.intb.extractLsb' 0 16).toNat = v.toNat % 16 * 65536 + s.intb.toNat % 65536 := by
      rw [hintb, append_toNat, BitVec.extractLsb'_toNat, BitVec.extractLsb'_toNat, Nat.shiftRight_zero, Nat.shiftRight_zero]
      rfl
    exact happend
  | flg => exact toWord_ofWord v
  | isp | sb => rfl
  | sp => exact setSp_selects hu v
  | fb => exact setFb_fb u v

theorem LoadsCreg.retired (h : LoadsCreg s t v c) (p : Addr) : LoadsCreg s { t.inhibit with pc := p } v c := by
  cases c <;> exact h

/-- LDC: the source is read first (R80). -/
theorem completes_of_setCreg {i : Instr} (hexec : exec i s = retire i (u.setCreg c v).inhibit) (hwf : i.wellFormed = true)
    (hpc : u.pc = s.pc) (hintb : u.intb = s.intb) (hu : u.flg.u = s.flg.u) :
    Completes i s fun t => LoadsCreg s t v c ∧ t.inhibitOnce = true :=
  completes_of_retire hexec hwf (by simpa using hpc) ⟨(setCreg_loads hintb hu v c).retired _, rfl⟩

end

/-! ### POPC (R553) -/

section
variable (s : State) (c : CReg)

/-- The state that POPC leaves, but for PC and the inhibit: SP goes up only if it is not the destination. -/
def popCreg : State :=
  if s.isStackPointer c then (read16 s (zext20 s.sp)).2.setSp (read16 s (zext20 s.sp)).1
  else ((read16 s (zext20 s.sp)).2.setSp (s.sp + 2)).setCreg c (read16 s (zext20 s.sp)).1

theorem exec_popc : exec (.popc c) s = retire (.popc c) (popCreg s c).inhibit := rfl

theorem popCreg_pc : (popCreg s c).pc = s.pc := by
  unfold popCreg
  split <;> simp

/-- Where the destination is the selected stack pointer, loading it is loading SP. -/
theorem LoadsCreg.of_stackPointer {t : State} {v : Word} (hc : s.isStackPointer c = true)
    (h : if s.flg.u then t.usp = v else t.isp = v) : LoadsCreg s t v c := by
  cases c with
  | sp => exact h
  | isp =>
    have hu : s.flg.u = false := by simpa [State.isStackPointer] using hc
    rw [hu] at h
    exact h
  | intbl | intbh | flg | sb | fb => exact absurd hc nofun

theorem popCreg_loads : LoadsCreg s (popCreg s c) (read16 s (zext20 s.sp)).1 c := by
  unfold popCreg
  split
  · next hc => exact LoadsCreg.of_stackPointer s c hc (setSp_selects (by simp) _)
  · exact setCreg_loads (by simp) (by simp) _ c

theorem popCreg_stack (hc : c ≠ .sp) :
    if s.flg.u then (popCreg s c).usp = s.usp + 2 else c ≠ .isp → (popCreg s c).isp = s.isp + 2 := by
  cases hu : s.flg.u with
  | true =>
    have hother : s.isStackPointer c = false := by
      cases c <;> simp [State.isStackPointer, hu] at hc ⊢
    simp [popCreg, hother, setCreg_usp _ hc, State.setSp, State.sp, hu]
  | false =>
    intro hisp
    have hother : s.isStackPointer c = false := by
      cases c <;> simp [State.isStackPointer] at hc hisp ⊢
    simp [popCreg, hother, setCreg_isp _ hc hisp, State.setSp, State.sp, hu]

end

/-! ### Three bytes of memory -/

section
variable {s : State} {a : Addr}

theorem write24_platformLog (s : State) (a : Addr) (v : BitVec 24) : (write24 s a v).platformLog =
    deviceWrites s.layout a (wordBytes (v.extractLsb' 0 16) ++ [v.extractLsb' 16 8]) ++ s.platformLog := by
  have h2 : a + 1 + 1 = a + 2 := by bv_omega
  simp only [write24, writeByte_platformLog, write16_platformLog, write16_layout, deviceWrites, wordBytes, List.cons_append,
    List.nil_append, List.append_assoc, h2]

theorem stored_write24 (hm : Memory.wf s.mem = true) (v : BitVec 24) :
    Stored (write24 s a v) a (wordBytes (v.extractLsb' 0 16) ++ [v.extractLsb' 16 8]) := by
  have h0 : a ≠ a + 2 := by bv_omega
  have h1 : a + 1 ≠ a + 2 := by bv_omega
  constructor
  · intro k w hk hw
    rw [write24_layout] at hw
    match k with
    | 0 =>
      obtain rfl : loByte (v.extractLsb' 0 16) = w := by simpa [wordBytes] using hk
      rw [BitVec.add_zero] at hw ⊢
      exact (writeByte_peek_ne _ _ _ _ h0).trans (write16_peek_lo s a _ hm hw)
    | 1 =>
      obtain rfl : hiByte (v.extractLsb' 0 16) = w := by simpa [wordBytes] using hk
      exact (writeByte_peek_ne _ _ _ _ h1).trans (write16_peek_hi s a _ hm hw)
    | 2 =>
      obtain rfl : v.extractLsb' 16 8 = w := by simpa [wordBytes] using hk
      exact writeByte_peek_same _ _ _ (write16_wf s a _ hm) (by simpa using hw)
    | k + 3 => simp [wordBytes] at hk
  · rw [write24_layout, write24_platformLog]
    exact ⟨s.platformLog, rfl⟩

theorem wordBytes_zeroExtend (x : Addr) :
    wordBytes ((x.zeroExtend 24).extractLsb' 0 16) ++ [(x.zeroExtend 24).extractLsb' 16 8] = addrBytes x := by
  have hx := x.isLt
  have hzext : (x.zeroExtend 24).toNat = x.toNat := by
    rw [BitVec.toNat_setWidth]
    omega
  simp only [wordBytes, addrBytes, loByte, hiByte, List.cons_append, List.nil_append, List.cons.injEq, and_true]
  refine ⟨?_, ?_, ?_⟩ <;> apply BitVec.eq_of_toNat_eq
  all_goals simp only [BitVec.extractLsb'_toNat, BitVec.toNat_setWidth, hzext, Nat.shiftRight_eq_div_pow]
  all_goals omega

end

theorem setApair_apair (s : State) (p : APair) (v : Long) : (s.setApair p v).apair p = v := by
  cases p with
  | r2r0 => exact setPair_pair s .r2r0 v
  | r3r1 => exact setPair_pair s .r3r1 v
  | a1a0 => exact setApair_a1a0_apair s v

/-- STC PC with a register destination is two bytes long. -/
theorem nextPc_stcPc_toNat (s : State) (p : APair) : ((s.nextPc (.stcPc (.pair p))).zeroExtend 32).toNat = (s.pc.toNat + 2) % 2 ^ 20 := by
  have hlength : BitVec.ofNat 20 (Instr.stcPc (.pair p)).length = 2 := rfl
  have hpc := (s.pc + 2).isLt
  rw [State.nextPc, hlength, BitVec.toNat_setWidth, Nat.mod_eq_of_lt (by omega), BitVec.toNat_add]
  rfl

/-- Settles O55. -/
theorem controlRegisters : Obligations.ControlRegisters := by
  intro s hm
  refine ⟨fun c => ⟨fun src => ?_, fun v => ?_, ?_, fun dst => ?_⟩, fun p => ?_, fun m => ?_⟩
  · exact completes_of_setCreg (u := (readSrc16 s src).2) rfl rfl (by simp) (by simp) (by simp)
  · exact completes_of_setCreg (u := s) rfl rfl rfl rfl rfl
  · exact completes_of_retire (exec_popc s c) rfl (popCreg_pc s c) ⟨(popCreg_loads s c).retired _, rfl, popCreg_stack s c⟩
  · refine completes_of_retire rfl rfl (by simp) ⟨s.creg c, creg_toNat s c, ?_⟩
    exact (writeDest16_copies hm rfl (fun _ => rfl) (s.creg c) dst).with_pc
  · refine completes_of_retire rfl rfl (by simp) ?_
    exact (congrArg BitVec.toNat (setApair_apair s p _)).trans (nextPc_stcPc_toNat s p)
  · refine completes_of_retire rfl rfl (by simp) ?_
    rw [← wordBytes_zeroExtend]
    exact (stored_write24 hm _).with_pc

end Sys2Proof.Machine
end


section
/-! SUPPORT. LDCTX and STCTX (R538, R567): the table entry, and transfers as those of POPM and PUSHM. -/

namespace Sys2Proof.Machine

section
variable (s : State) (n : Word) (base : Addr)

theorem popmByte_popmList (x : Byte) : RegList.popmByte (popmList x) = x := byteOfBits_getLsbD x

/-- A table entry in plain memory: the list's byte, then the correction value. -/
theorem readContext_plain {entry : Addr} (hentry : entry = base + BitVec.ofNat 20 (2 * (s.peek (zext20 n)).toNat))
    (htask : s.layout.inImage (zext20 n) = true) (hlist : s.layout.inImage entry = true) (hcorr : s.layout.inImage (entry + 1) = true) :
    (readContext s n base).1 = (popmList (s.peek entry), (s.peek (entry + 1)).zeroExtend 16) := by
  have hread : readByte s (zext20 n) = (s.peek (zext20 n), s) :=
    Prod.ext (readByte_fst s _ htask) (afterRead_plain s _ htask)
  simp only [readContext, hread, ← hentry]
  rw [readByte_fst s _ hlist, readByte_fst _ _ (by simpa using hcorr)]
  simp

end

section
variable {s u t : State} {l : RegList} {p : Word}

/-- A read before the transfers changes nothing of what they load. -/
theorem LoadsRegs.after_read (h : LoadsRegs u t l p) (hmem : u.mem = s.mem) (hlayout : u.layout = s.layout) : LoadsRegs s t l p := by
  simpa only [LoadsRegs, State.peek, hmem, hlayout] using h

theorem HoldsRegs.after_read (h : HoldsRegs u t l p) (hbank : u.bank = s.bank) (hsb : u.sb = s.sb) : HoldsRegs s t l p := by
  intro j r hj
  rw [← listed_of_bank_eq hbank hsb r]
  exact h j r hj

end

/-- Settles O56: after the two reads of the table the transfers are those of a register list. -/
theorem taskContext : Obligations.TaskContext := by
  intro s n base hm l corr
  refine ⟨?_, ?_, ?_⟩
  · refine completes_of_retire rfl rfl (by simp) ⟨setSp_sp _ _, ?_, by simp⟩
    have hloads : LoadsRegs s _ l s.sp := (loadRegs_loads l (readContext s n base).2 s.sp).after_read (by simp) (by simp)
    exact loadsRegs_of_same_registers hloads (setSp_bank _ _) (setSp_sb _ _)
  · refine completes_of_retire rfl rfl (by simp) ⟨setSp_sp _ _, ?_, by simp⟩
    have hholds : HoldsRegs s _ l _ :=
      (storeRegs_holds l (readContext s n base).2 s.sp (by simpa using hm)).after_read (by simp [State.bank]) (by simp)
    exact holdsRegs_of_same_image hholds (setSp_mem _ _) (setSp_layout _ _) (storeRegs_snd ..).symm
  · intro task entry htask hlist hcorr
    have hentry := readContext_plain s n base rfl htask hlist hcorr
    have hlt := (s.peek (entry + 1)).isLt
    constructor
    · have hvalue : corr = (s.peek (entry + 1)).zeroExtend 16 := congrArg Prod.snd hentry
      rw [hvalue, BitVec.toNat_setWidth]
      omega
    · have hregs : l = popmList (s.peek entry) := congrArg Prod.fst hentry
      rw [hregs, popmByte_popmList]

end Sys2Proof.Machine
end
